-- ==== Sys2Proof/Word.lean ====
section
/-! DEFINITION. The word types and index types of the ORS-6432 model. -/

namespace Sys2Proof

/-- Eight bits: a byte of a frame, of a request block or of an image. -/
abbrev Byte := BitVec 8

/-- Sixteen bits: generations, sequences, two-byte fields. -/
abbrev Half := BitVec 16

/-- Thirty-two bits: one word of the steering port (10.3). -/
abbrev Word := BitVec 32

/-- Sixty-four bits: times of day, stamps and host addresses (00_scope.md, "Numbers and units"). -/
abbrev Quad := BitVec 64

/-- The step epoch of the Time Base (R91). -/
abbrev Epoch := BitVec 4

/-- A report line, 0 to 7 (R1). -/
abbrev LineIndex := Fin 8

/-- A hop record, 0 to 63 (R17). -/
abbrev HopIndex := Fin 64

/-- A hold level, H0 to H7 (R44). -/
abbrev LevelIndex := Fin 8

/-- A path record, 0 to 127 (R55). -/
abbrev PathIndex := Fin 128

/-- A probe slot, 0 to 31 (R100). -/
abbrev SlotIndex := Fin 32

/-- A route record, 0 to 31: the number of its far site (R123). -/
abbrev RouteIndex := Fin 32

/-- A message class, 0 to 3 (R126). -/
abbrev ClassIndex := Fin 4

end Sys2Proof
end

