-- ==== Sys2Proof/Syntax.lean ====
section
/-! DEFINITION. The commands of the ORS-6432: one constructor of `Instr` per row of
spec/opcode_table.json, with the operands the rules give the row. -/

namespace Sys2Proof

/-- The two causes of a warm reset (00_scope.md, "Reset kinds"); R181 tells them apart. -/
inductive WarmSource where
  | pin
  | hotReset
  deriving DecidableEq, Repr

/-- The four interrupt vectors (R168). -/
inductive IrqVector where
  | listEnded
  | progressNote
  | attention
  | timeState
  deriving DecidableEq, Repr

/-- A re-rank trigger (R128): naming a hop, naming a path, or all routes. -/
inductive Trigger where
  | hop (h : HopIndex)
  | path (p : PathIndex)
  | all
  deriving DecidableEq, Repr

/-- A place at which the millisecond tick is taken as an event of its own: a hop record (R30), the pulse
supervision timer (R80), a probe slot (R111), a path's probe timer (R97), or the Maintenance Channel, whose
outstanding read counts ticks (R169). -/
inductive TickPlace where
  | hop (h : HopIndex)
  | supervision
  | slot (k : SlotIndex)
  | path (p : PathIndex)
  | channel
  deriving DecidableEq, Repr

/-- One PCIe configuration write (R181). -/
inductive ConfigSetting where
  | busMaster (on : Bool)
  | messages (on : Bool)
  | mask (v : IrqVector) (on : Bool)
  deriving DecidableEq, Repr

/-- The WRITE-HOP image, each field at the width it has in host memory (R191). -/
structure HopImage where
  line : Byte
  nominal : Byte
  fade : Half
  clear : Half
  errorLimit : Byte
  badLimit : Byte
  restore : Half
  silence : Half
  propagation : BitVec 32
  regeneration : Half
  deriving DecidableEq, Repr

/-- The WRITE-PATH image (R191). -/
structure PathImage where
  kind : Byte
  port : Byte
  farId : Byte
  hopCount : Byte
  asymmetry : Half
  interval : Half
  echoTimeout : Byte
  lossLimit : Byte
  shift : Byte
  rejectWindow : Half
  fibreRate : Half
  fibreLatency : BitVec 32
  hops : Vector Byte 12
  deriving DecidableEq, Repr

/-- The WRITE-ROUTE image (R191). -/
structure RouteImage where
  count : Byte
  fallbackPresent : Byte
  refLength : Half
  fallback : Byte
  candidates : Vector Byte 8
  deriving DecidableEq, Repr

/-- The WRITE-CLASS image (R192). -/
structure ClassImage where
  tolerateFading : Byte
  fibreCompetes : Byte
  ordering : Byte
  gap : Half
  maxHold : BitVec 32
  deriving DecidableEq, Repr

/-- The WRITE-TIMING image (R192). -/
structure TimingImage where
  stepLimit : BitVec 32
  integral : Byte
  proportional : Byte
  deriving DecidableEq, Repr

/-- The WRITE-DEVICE image (R192). -/
structure DeviceImage where
  terminalId : Byte
  lead : Half
  deriving DecidableEq, Repr

/-- The commands. A constructor's docstring names its row and the rule the row cites. -/
inductive Instr where
  /-- POWER_ON_RESET (R42): PORST. -/
  | powerOnReset
  /-- WARM_RESET (R43): WRST or a PCIe hot reset. -/
  | warmReset (source : WarmSource)
  /-- REPORT_FRAME_BEGIN (R8): frame-select of a line becomes active. -/
  | reportFrameBegin (l : LineIndex)
  /-- REPORT_FRAME_END (R9): frame-select of a line becomes inactive. -/
  | reportFrameEnd (l : LineIndex)
  /-- LINE_TURN (R13): the hop update arbiter grants a line's turn. -/
  | lineTurn
  /-- MAINTENANCE_TURN (R14): the hop update arbiter grants the Maintenance Channel's turn. -/
  | maintenanceTurn
  /-- RUN (R4). -/
  | run (l : LineIndex)
  /-- SUSPEND (R5). -/
  | suspend (l : LineIndex)
  /-- STOP (R6). -/
  | stop (l : LineIndex)
  /-- READ_LINE (R16), with the zero option. -/
  | readLine (l : LineIndex) (zero : Bool)
  /-- MILLISECOND_TICK (R75): the tick is taken at one place (log 12). -/
  | millisecondTick (place : TickPlace)
  /-- CLEAR_HOLD_EXPIRY (R26). -/
  | clearHoldExpiry (h : HopIndex)
  /-- SILENCE_EXPIRY (R28). -/
  | silenceExpiry (h : HopIndex)
  /-- READ_HOP (R41). -/
  | readHop (h : HopIndex)
  /-- WRITE_HOP (R37, R38). -/
  | writeHop (h : HopIndex) (image : HopImage)
  /-- RETIRE_HOP (R39). -/
  | retireHop (h : HopIndex)
  /-- CLEAR_HOP_COUNTS (R40). -/
  | clearHopCounts (h : HopIndex)
  /-- PLACE_HOLD (R45): bit i of the map is hop index i (R192). -/
  | placeHold (k : LevelIndex) (map : BitVec 64)
  /-- RELEASE_HOLD (R46). -/
  | releaseHold (k : LevelIndex)
  /-- READ_HOLDS (R53). -/
  | readHolds
  /-- WRITE_PROFILES (R59): entries 1 to 7. -/
  | writeProfiles (entries : Vector Half 7)
  /-- READ_PROFILES (R59). -/
  | readProfiles
  /-- WRITE_PATH (R69, R70). -/
  | writePath (p : PathIndex) (image : PathImage)
  /-- RETIRE_PATH (R71). -/
  | retirePath (p : PathIndex)
  /-- RESTART_ESTIMATE (R72). -/
  | restartEstimate (p : PathIndex)
  /-- READ_PATH (R73). -/
  | readPath (p : PathIndex)
  /-- REFERENCE_PULSE (R80). -/
  | referencePulse
  /-- HOLDOVER_ENTRY (R84). -/
  | holdoverEntry
  /-- SET_TIME (R87). -/
  | setTime (v : Quad)
  /-- ADJUST_TIME (R88): the offset is signed. -/
  | adjustTime (offset : Quad)
  /-- WRITE_TIMING (R89). -/
  | writeTiming (image : TimingImage)
  /-- READ_TIME (R90). -/
  | readTime
  /-- STEP_SIGNAL_PROBE_ENGINE (R118). -/
  | stepSignalProbeEngine
  /-- STEP_SIGNAL_ROUTE_TABLE (R133). -/
  | stepSignalRouteTable
  /-- PROBE_TIMER_EXPIRY (R98). -/
  | probeTimerExpiry (p : PathIndex)
  /-- PROBE_TRANSMIT_GRANT (R102). -/
  | probeTransmitGrant
  /-- FRAME_TRANSMISSION_END (R104). -/
  | frameTransmissionEnd
  /-- PROBE_FRAME_RECEIVED (R105): the frame's bytes, first byte first, and the radio port it arrived on. -/
  | probeFrameReceived (bytes : List Byte) (port : Byte)
  /-- ECHO_TIMEOUT (R111). -/
  | echoTimeout (k : SlotIndex)
  /-- WRITE_DEVICE (R99). -/
  | writeDevice (image : DeviceImage)
  /-- READ_DEVICE (R120), with the zero option. -/
  | readDevice (zero : Bool)
  /-- RE_RANK_TRIGGER (R128). -/
  | reRankTrigger (t : Trigger)
  /-- RECOMPUTATION (R129, R130). -/
  | recomputation
  /-- WRITE_CLASS (R127). -/
  | writeClass (c : ClassIndex) (image : ClassImage)
  /-- READ_CLASS (R127). -/
  | readClass (c : ClassIndex)
  /-- COLLECT (R136). -/
  | collect
  /-- WRITE_ROUTE (R138). -/
  | writeRoute (r : RouteIndex) (image : RouteImage)
  /-- RETIRE_ROUTE (R139). -/
  | retireRoute (r : RouteIndex)
  /-- READ_ROUTE (R140). -/
  | readRoute (r : RouteIndex)
  /-- STEERING_REQUEST_WORD (R143). -/
  | steeringRequestWord (w : Word)
  /-- LOOKUP_COMPUTATION (R147). -/
  | lookupComputation
  /-- ANSWER_WORD_TAKEN (R146). -/
  | answerWordTaken
  /-- START (R164). -/
  | start
  /-- HALT (R165). -/
  | halt
  /-- ACK (R166). -/
  | ack
  /-- CHANNEL_CLEAR (R167). -/
  | channelClear
  /-- WINDOW_WRITE (R162, R188): a memory write of `size` bytes at byte `offset` of the window. -/
  | windowWrite (offset size : Nat) (value : Quad)
  /-- CONFIGURATION_WRITE (R181). -/
  | configurationWrite (setting : ConfigSetting)
  /-- BLOCK_FETCH_COMPLETE (R171): the completion of the read with this tag, the 16 bytes as a
  little-endian number, or none for an error status (R169). -/
  | blockFetchComplete (tag : Nat) (block : Option (BitVec 128))
  /-- DATA_READ_COMPLETE (R175): host memory from the data address on as a little-endian number, of
  which only the image's size is read, or none when a read of the image failed. -/
  | dataReadComplete (tag : Nat) (data : Option (BitVec 256))
  /-- SKIPPED_BLOCK_FETCH_COMPLETE (R178). -/
  | skippedBlockFetchComplete (tag : Nat) (block : Option (BitVec 128))
  /-- BUS_MASTER_READ_TIMEOUT (R169). -/
  | busMasterReadTimeout
  /-- JUMP (R170): its data address. -/
  | jump (target : Quad)
  /-- INTERRUPT_MESSAGE (R168). -/
  | interruptMessage (v : IrqVector)
  /-- OSCILLATOR_PERIOD (R76). -/
  | oscillatorPeriod
  /-- REPORT_CLOCK_EDGE (R8): the data bit sampled on the edge. -/
  | reportClockEdge (l : LineIndex) (bit : Bool)
  /-- FRAME_FIRST_BYTE_ARRIVAL (R105). -/
  | frameFirstByteArrival
  /-- IMAGE_WRITE_ISSUED (R176): a posted write of the next `bytes` bytes of the image; one that
  carries all that is left is the last (log 17). -/
  | imageWriteIssued (bytes : Nat)
  deriving DecidableEq, Repr

end Sys2Proof
end

