-- ==== Sys2Proof/Config.lean ====
section
/-! DEFINITION. The constants the spec fixes for the ORS-6432. The spec leaves no value of the part
free, so no constant here is opaque. -/

namespace Sys2Proof.Config

/-- Oscillator periods of one millisecond tick (R75). -/
def periodsPerTick : Nat := 125000

/-- Range of the time fraction, in attoseconds (R76). -/
def attosPerNano : Int := 1000000000

/-- Bound of A_int and A_app, in ppb (R77). -/
def adjustmentLimit : Int := 500000

/-- Nanoseconds of one second, the spacing of reference pulses (R81) and the clamp of ADJUST-TIME (R88). -/
def second : Nat := 1000000000

/-- A pulse that finds a supervision time below this is spurious (R80). -/
def pulseGuard : Nat := 500

/-- The supervision time at which HOLDOVER is entered (R84). -/
def supervisionLimit : Nat := 1500

/-- Greatest step limit WRITE-TIMING accepts (R89). -/
def stepLimitMax : Nat := 1000000

/-- Greatest path estimate, in sixteenths of a nanosecond (R57). -/
def estimateMax : Nat := 268435455

/-- Greatest nominal latency and greatest latency used, in ns (R61, R62). -/
def latencyMax : Nat := 16777215

/-- Greatest probe interval WRITE-PATH accepts, in ms (R67). -/
def intervalMax : Nat := 1000

/-- Greatest slow probe interval, in ms (R97). -/
def slowIntervalMax : Nat := 8000

/-- Length of a probe or echo frame, in bytes (R183). -/
def probeFrameBytes : Nat := 64

/-- Samples after which a SETTLING estimate is STEADY (R116). -/
def steadyCount : Nat := 8

/-- Rejected samples in a row that restart an estimate (R115). -/
def outlierLimit : Nat := 4

/-- Entries the echo backlog holds (R107). -/
def backlogMax : Nat := 8

/-- Entries the lookup queue holds (R145). -/
def lookupQueueMax : Nat := 16

/-- Words of an answer (R146). -/
def answerWords : Nat := 6

/-- Greatest maximum hold WRITE-CLASS accepts, in ns (R127). -/
def maxHoldMax : Nat := 1048575

/-- Greatest switch lead WRITE-DEVICE accepts, in ns (R99). -/
def leadMax : Nat := 4095

/-- Blocks a list may execute (R172). -/
def listLengthMax : Nat := 1024

/-- Ticks after which an outstanding bus-master read has failed (R169). -/
def readTimeout : Nat := 50

/-- Largest value of a 16-bit counter or timer (00_scope.md, "Saturating counters"). -/
def max16 : Nat := 65535

/-- Largest value of a 32-bit counter (00_scope.md, "Saturating counters"). -/
def max32 : Nat := 4294967295

end Sys2Proof.Config
end

