-- ==== Sys2Proof/Machine/Bits.lean ====
section
/-! DEFINITION. Arithmetic and byte-order helpers: saturating counters, effective values, the rounded
shift, clamping, and the two byte orders of chapter 10. -/

namespace Sys2Proof.Machine

/-- A saturating increment: a counter at its largest value holds there (00_scope.md, "Saturating counters"). -/
def satInc (largest n : Nat) : Nat := min (n + 1) largest

/-- The effective value of a field whose 0 acts as 1 (00_scope.md, "Effective values"). -/
def effective (n : Nat) : Nat := max n 1

/-- The rounded shift of a signed value by k places: the arithmetic right shift plus the last bit
shifted out; by 0 places the value itself (00_scope.md, "Rounding"). -/
def roundedShift (x : Int) (k : Nat) : Int :=
  match k with
  | 0 => x
  | k + 1 => x / 2 ^ (k + 1) + x / 2 ^ k % 2

/-- `x` brought into the range from `lo` to `hi`. -/
def clamp (lo hi x : Int) : Int := max lo (min hi x)

/-- The least integer not below a / b, for b at least 1 (00_scope.md, "Rounding"). -/
def divUp (a b : Nat) : Nat := (a + b - 1) / b

/-- `n` bytes, the least significant first: host memory and the window (chapter 10). -/
def leBytes (n x : Nat) : List Byte :=
  match n with
  | 0 => []
  | n + 1 => BitVec.ofNat 8 x :: leBytes n (x / 256)

/-- `n` bytes, the most significant first: everything on a shared wire (chapter 10). -/
def beBytes (n x : Nat) : List Byte := (leBytes n x).reverse

/-- The number that bytes spell, the most significant first. -/
def beNat (bytes : List Byte) : Nat := bytes.foldl (fun acc b => acc * 256 + b.toNat) 0

/-- The field of `n` bytes at offset `off` of a frame, read most significant byte first. -/
def beField (bytes : List Byte) (off n : Nat) : Nat := beNat ((bytes.drop off).take n)

/-- The field of `n` bytes at offset `off` of a little-endian block or image. -/
def leField {w : Nat} (d : BitVec w) (off n : Nat) : BitVec (8 * n) := d.extractLsb' (8 * off) (8 * n)

/-- A byte flag of a read image: 1 when set (R193). -/
def flagByte (b : Bool) : Byte := if b then 1 else 0

/-- The sum, modulo 65,536, of the halfwords of a frame, halfword i formed from byte 2i as its high
byte and byte 2i + 1 as its low byte (R183). -/
def halfwordSum : List Byte → Half
  | a :: b :: rest => (a ++ b : BitVec 16) + halfwordSum rest
  | _ => 0

/-- A record at every index of a table, computed from the index. -/
def tabulate {α : Type} (n : Nat) (f : Fin n → α) : Vector α n := Vector.ofFn f

/-- The first element that no later element beats: later elements win only when strictly better. -/
def firstBest {α : Type} (better : α → α → Bool) : List α → Option α
  | [] => none
  | x :: rest =>
    match firstBest better rest with
    | none => some x
    | some y => if better y x then some y else some x

end Sys2Proof.Machine
end

