-- ==== Sys2Proof/Machine/State.lean ====
section
/-! DEFINITION. The state of the ORS-6432 as plain data: every register, record, buffer, queue, mode and
pin the spec names, the fault and refusal reasons, and `State.reset`, the part right after power-on reset. -/

namespace Sys2Proof.Machine

/-! ## Outcomes that stop -/

/-- Reasons a step could stop with a fault. -/
inductive Fault where
  /-- Raised by no meaning: the spec names no event that stops the part (log 23). Safe. -/
  | never
  deriving DecidableEq, Repr

/-- Reasons a step could be refused. -/
inductive Refusal where
  /-- Raised by an arm of `exec` whose command has no meaning yet; no arm is left so. Safe. -/
  | notModelled (mnemonic : String)
  deriving DecidableEq, Repr

/-! ## Conditions and causes of maintenance requests -/

/-- The condition of a request or of the last block (R176, R178, R180). -/
inductive Condition where
  | none
  | done
  | mismatch
  | skipped
  deriving DecidableEq, Repr

/-- How a list ended (R180). -/
inductive EndKind where
  | none
  | normal
  | halted
  | requestCheck
  | lengthCheck
  | accessCheck
  | sequenceCheck
  deriving DecidableEq, Repr

/-- The causes of R189. -/
inductive Cause where
  | none | generation | inUse | vacant | levelPlaced | levelBelowFree | levelFree | timeUnset
  | nonePending | flags | code | index | count | alignment | short | long | fetch | dataRead
  | dataWrite | doubleJump | listLength | action | line | profile | threshold | limit | delay | kind
  | port | farId | interval | shift | hopCount | hopIndex | hopDuplicate | hopVacant | fibreLatency
  | fibreRate | kindInUse | switch | maxHold | candidateCount | pathIndex | candidateDuplicate
  | candidateKind | fallbackKind | length | stepLimit | integral | proportional | lead
  deriving DecidableEq, Repr

/-- What an owning block answers to a request (R176): DONE, or MISMATCH with its cause, and the image a
read request took. Condition `none` with a cause is a request that failed content validation. -/
structure Reply where
  condition : Condition
  cause : Cause
  image : List Byte
  deriving DecidableEq, Repr

/-- No request presented yet. -/
def Reply.empty : Reply := ⟨.none, .none, []⟩

/-! ## Report lines (R1 to R11) -/

/-- The four line states (R1). -/
inductive LineState where
  | stopped
  | running
  | suspending
  | suspended
  deriving DecidableEq, Repr

/-- A shift stage that gathers a frame (R8): whether the frame was admitted when it began, the first 64
bits in order of arrival (the first bit highest), and the bit count, which holds at 65. -/
structure Stage where
  admitted : Bool
  bits : BitVec 64
  count : Nat
  deriving DecidableEq, Repr

/-- A frame in the holding buffer with the stamp of its end (R10); byte 0 is the highest byte. -/
structure Buffered where
  frame : BitVec 64
  stamp : Quad
  deriving DecidableEq, Repr

/-- The seven line counters, each 0 to 65,535 (R11). -/
structure LineCounters where
  absorbed : Nat
  checkErrors : Nat
  lengthErrors : Nat
  unknownHop : Nat
  misrouted : Nat
  refused : Nat
  overrun : Nat
  deriving DecidableEq, Repr

/-- All seven counters at 0. -/
def LineCounters.zero : LineCounters := ⟨0, 0, 0, 0, 0, 0, 0⟩

/-- One report line. `frameSelect` is the level of the frame-select wire. A frame that is on the wire
while the stage is idle belongs to no frame: a reset or STOP discarded it (R2, R6). -/
structure Line where
  state : LineState
  frameSelect : Bool
  stage : Option Stage
  buffer : Option Buffered
  counters : LineCounters
  deriving DecidableEq, Repr

/-- A line after a reset whose frame-select wire stands at `level` (R2). -/
def Line.initial (level : Bool) : Line := ⟨.stopped, level, none, none, .zero⟩

/-! ## Hop records (R17, R18) -/

/-- The five hop states (R17). -/
inductive HopState where
  | vacant
  | clear
  | fading
  | faded
  | down
  deriving DecidableEq, Repr

/-- The ten configuration fields of a hop (R17); thresholds are signed tenths of dB. -/
structure HopConfig where
  line : LineIndex
  nominal : BitVec 3
  fade : Half
  clear : Half
  errorLimit : Byte
  badLimit : BitVec 4
  restore : Half
  silence : Half
  propagation : BitVec 20
  regeneration : BitVec 12
  deriving DecidableEq, Repr

/-- Every configuration field 0. -/
def HopConfig.zero : HopConfig := ⟨0, 0, 0, 0, 0, 0, 0, 0, 0, 0⟩

/-- A hop record (R17, R18). `clearHold` is none while the timer is stopped; a stopped timer's value is 0. -/
structure Hop where
  state : HopState
  config : HopConfig
  profile : BitVec 3
  margin : Half
  errors : Byte
  stamp : Quad
  bad : Nat
  clearHold : Option Nat
  silence : Nat
  outage : Nat
  generation : Half
  attention : Bool
  deriving DecidableEq, Repr

/-- A VACANT record with a generation: every other field 0, the timer stopped (R39, R42). -/
def Hop.vacant (generation : Half) : Hop :=
  ⟨.vacant, .zero, 0, 0, 0, 0, 0, none, 0, 0, generation, false⟩

/-! ## Path records (R55 to R57) -/

/-- The part of a path record that its kind decides (R56). -/
inductive PathBody where
  | vacant
  | microwave (hops : List HopIndex)
  | fibre (latency : BitVec 24) (rate : Half)
  deriving DecidableEq, Repr

/-- Estimate status (R57). -/
inductive EstimateStatus where
  | none
  | settling
  | steady
  deriving DecidableEq, Repr

/-- The eight common configuration fields of a path (R55); the asymmetry is signed ns. -/
structure PathConfig where
  port : BitVec 4
  farId : Byte
  asymmetry : Half
  interval : Half
  echoTimeout : Byte
  lossLimit : BitVec 4
  rejectWindow : Half
  shift : BitVec 3
  deriving DecidableEq, Repr

/-- Every configuration field 0. -/
def PathConfig.zero : PathConfig := ⟨0, 0, 0, 0, 0, 0, 0, 0⟩

/-- A path record. `timer` is none while the probe timer is stopped (R97). -/
structure Path where
  body : PathBody
  config : PathConfig
  estimate : Nat
  status : EstimateStatus
  accepted : Nat
  outlier : Nat
  loss : Nat
  lost : Bool
  nextSeq : Half
  timer : Option Nat
  generation : Half
  deriving DecidableEq, Repr

/-- A VACANT record with a generation and a next sequence: every other field 0 (R71, R74). -/
def Path.vacant (nextSeq generation : Half) : Path :=
  ⟨.vacant, .zero, 0, .none, 0, 0, 0, false, nextSeq, none, generation⟩

/-! ## Time Base (R75 to R95) -/

/-- The four time-base states (R79). -/
inductive TimeState where
  | unset
  | set
  | tracking
  | holdover
  deriving DecidableEq, Repr

/-- The Time Base. `supervision` is none while the pulse supervision timer is absent (R80); `periods` counts
oscillator periods since the last tick fell due (R75). -/
structure TimeBase where
  state : TimeState
  count : Quad
  fraction : Int
  aInt : Int
  aApp : Int
  stepLimit : BitVec 20
  integral : BitVec 3
  proportional : BitVec 3
  epoch : Epoch
  supervision : Option Nat
  lastError : Int
  periods : Nat
  deriving DecidableEq, Repr

/-- The Time Base after power-on reset (R94). -/
def TimeBase.initial : TimeBase :=
  ⟨.unset, 0, 0, 0, 0, 10000, 3, 0, 0, none, 0, 0⟩

/-- The ticks delivered to each place and not yet taken there (R75, log 11). -/
structure Ticks where
  hops : Vector Nat 64
  supervision : Nat
  slots : Vector Nat 32
  paths : Vector Nat 128
  channel : Nat
  deriving DecidableEq, Repr

/-- No tick to take anywhere. -/
def Ticks.none : Ticks := ⟨Vector.replicate 64 0, 0, Vector.replicate 32 0, Vector.replicate 128 0, 0⟩

/-! ## Probe Engine (R96 to R122) -/

/-- A probe slot (R100). -/
inductive Slot where
  | free
  | queued (path : PathIndex) (seq : Half)
  | sent (path : PathIndex) (seq : Half) (t1 : Quad) (remaining : Nat) (generation : Half)
  deriving DecidableEq, Repr

/-- An entry of the echo backlog (R106). -/
structure EchoEntry where
  origin : Byte
  pathIndex : Byte
  seq : Half
  t1 : Quad
  t2 : Quad
  port : Byte
  deriving DecidableEq, Repr

/-- The stamp and the step epoch read when a frame's first byte arrived (R105). -/
structure Arrival where
  stamp : Quad
  epoch : Epoch
  deriving DecidableEq, Repr

/-- The seventeen device counters, each 0 to 4,294,967,295, in the order of R119. -/
structure DeviceCounters where
  probesSent : Nat
  echoesMatched : Nat
  unknownEchoes : Nat
  timeouts : Nat
  deferred : Nat
  echoesSent : Nat
  backlogDrops : Nat
  lengthErrors : Nat
  checkErrors : Nat
  misdirected : Nat
  looped : Nat
  refused : Nat
  stepDiscards : Nat
  unusableEchoes : Nat
  pulsesIgnored : Nat
  spuriousPulses : Nat
  steps : Nat
  deriving DecidableEq, Repr

/-- All seventeen counters at 0. -/
def DeviceCounters.zero : DeviceCounters :=
  ⟨0, 0, 0, 0, 0, 0, 0, 0, 0, 0, 0, 0, 0, 0, 0, 0, 0⟩

/-- The Probe Engine. `transmitter` is none while idle, else the 64 bytes of the frame in transmission
(R102 to R104); `receiving` is the frame being received (R105). -/
structure ProbeEngine where
  slots : Vector Slot 32
  backlog : List EchoEntry
  transmitter : Option (List Byte)
  receiving : Option Arrival
  terminalId : Byte
  lead : BitVec 12
  taken : Epoch
  counters : DeviceCounters
  deriving DecidableEq, Repr

/-- The Probe Engine after power-on reset (R121). -/
def ProbeEngine.initial : ProbeEngine :=
  ⟨Vector.replicate 32 .free, [], none, none, 0, 0, 0, .zero⟩

/-! ## Route Table (R123 to R142) -/

/-- The four route states (R123). -/
inductive RouteState where
  | vacant
  | normal
  | fallback
  | dark
  deriving DecidableEq, Repr

/-- An ordering context (R133). -/
structure Context where
  valid : Bool
  last : Quad
  deriving DecidableEq, Repr

/-- An invalid context, with A_last 0 (R133). -/
def Context.invalid : Context := ⟨false, 0⟩

/-- The four counters of a route, each 0 to 4,294,967,295 (R134). -/
structure RouteCounters where
  ok : Nat
  fallback : Nat
  waived : Nat
  noPath : Nat
  deriving DecidableEq, Repr

/-- All four counters at 0. -/
def RouteCounters.zero : RouteCounters := ⟨0, 0, 0, 0⟩

/-- A route record (R123, R125). -/
structure Route where
  state : RouteState
  candidates : List PathIndex
  fallback : Option PathIndex
  refLength : BitVec 14
  choice : Option PathIndex
  latency : Nat
  contexts : Vector Context 4
  counters : RouteCounters
  attention : Bool
  rerank : Bool
  generation : Half
  deriving DecidableEq, Repr

/-- A VACANT record with a generation: every other field clear or 0 (R139, R141). -/
def Route.vacant (generation : Half) : Route :=
  ⟨.vacant, [], none, 0, none, 0, Vector.replicate 4 .invalid, .zero, false, false, generation⟩

/-- A class policy (R126). -/
structure ClassPolicy where
  tolerateFading : Bool
  fibreCompetes : Bool
  ordering : Bool
  gap : Half
  maxHold : BitVec 20
  deriving DecidableEq, Repr

/-! ## Steering Port (R143 to R161) -/

/-- An entry of the lookup queue (R145); the length is the effective one. -/
structure Lookup where
  tag : Byte
  site : RouteIndex
  cls : ClassIndex
  length : BitVec 14
  stamp : Quad
  timeValid : Bool
  epoch : Epoch
  deriving DecidableEq, Repr

/-- Answer codes (R156, R185). -/
inductive AnswerCode where
  | ok
  | noRoute
  | noPath
  deriving DecidableEq, Repr

/-- An answer (R156). -/
structure Answer where
  tag : Byte
  code : AnswerCode
  timeInvalid : Bool
  orderWaived : Bool
  fallbackUsed : Bool
  held : Bool
  path : PathIndex
  port : BitVec 4
  departure : Quad
  arrival : Quad
  hold : Quad
  deriving DecidableEq, Repr

/-- The answer stage when it is not empty: the answer, and how many of its six words are taken (R146). -/
structure AnswerStage where
  answer : Answer
  taken : Nat
  deriving DecidableEq, Repr

/-- The Steering Port (R143 to R146). -/
structure SteeringPort where
  request : Option Word
  queue : List Lookup
  answer : Option AnswerStage
  deriving DecidableEq, Repr

/-- The Steering Port after either reset (R161). -/
def SteeringPort.initial : SteeringPort := ⟨none, [], none⟩

/-! ## Maintenance Channel (R162 to R181) -/

/-- The four channel states (9.2). -/
inductive ChannelState where
  | idle
  | running
  | halting
  | ended
  deriving DecidableEq, Repr

/-- The completion record (R162, R180). -/
structure Completion where
  endKind : EndKind
  cause : Cause
  lastBlock : Quad
  residual : Half
  executed : Nat
  lastCondition : Condition
  deriving DecidableEq, Repr

/-- Every field of the record 0 (R164, R167, R181). -/
def Completion.zero : Completion := ⟨.none, .none, 0, 0, 0, .none⟩

/-- A block in execution: its address, the fields of R186, and the residual of step 7 (R174). -/
structure Block where
  address : Quad
  code : Byte
  flags : Byte
  index : Half
  generation : Half
  count : Half
  dataAddress : Quad
  residual : Half
  deriving DecidableEq, Repr

/-- What the channel's block in execution waits for (9.2, R169 to R178). -/
inductive Work where
  /-- No block: IDLE or ENDED. -/
  | idle
  /-- A fetch is outstanding, for execution or of a skipped block (R169, R178). -/
  | fetching (tag : Nat) (address : Quad) (ticks : Nat) (skipped : Bool)
  /-- The data read of a write request is outstanding (R175). -/
  | reading (tag : Nat) (block : Block) (ticks : Nat)
  /-- The request waits for its apply (R176); a hop request waits at the hop update arbiter (R14). -/
  | applying (block : Block) (request : Instr)
  /-- Posted writes of a read request's image are still to be issued, from `next` on (R176). -/
  | writing (block : Block) (left : List Byte) (next : Quad)
  deriving DecidableEq, Repr

/-- One flag for each interrupt vector (R168). -/
structure VectorFlags where
  listEnded : Bool
  progressNote : Bool
  attention : Bool
  timeState : Bool
  deriving DecidableEq, Repr

/-- No flag set. -/
def VectorFlags.clear : VectorFlags := ⟨false, false, false, false⟩

/-- The Maintenance Channel with the endpoint settings it reads (R181). -/
structure Channel where
  state : ChannelState
  listAddress : Quad
  refusedStart : Bool
  progress : Quad
  record : Completion
  work : Work
  afterJump : Bool
  pendingIrq : VectorFlags
  busMaster : Bool
  messages : Bool
  masks : VectorFlags
  nextTag : Nat
  deriving DecidableEq, Repr

/-- The channel after power-on reset (R181). -/
def Channel.initial : Channel :=
  ⟨.idle, 0, false, 0, .zero, .idle, false, .clear, false, false, .clear, 0⟩

/-- Something the part has driven to a partner (log 7). -/
inductive Emission where
  /-- A posted memory write of a read image (R176). -/
  | hostWrite (address : Quad) (bytes : List Byte)
  /-- A message interrupt (R168). -/
  | message (v : IrqVector)
  /-- An answer word taken by the switch logic (R146). -/
  | answerWord (w : Word)
  /-- A probe or echo frame whose last byte has passed to the link (R104). -/
  | frame (bytes : List Byte)
  deriving DecidableEq, Repr

/-! ## The whole part -/

/-- The state of the part, and the queue of commands that wait for it. -/
structure State where
  /-- Commands waiting, first in, first out (log 1). -/
  pending : List Instr
  lines : Vector Line 8
  /-- The search pointer of the hop update arbiter: 0 to 7 are the lines, 8 is position M (R12). -/
  arbiter : Fin 9
  hops : Vector Hop 64
  /-- The hold levels: none is free, some is the set of a placed level (R44). -/
  holds : Vector (Option (BitVec 64)) 8
  paths : Vector Path 128
  /-- Profile table entries 1 to 7; entry 0 is fixed at 0 and not stored (R58). -/
  profiles : Vector Half 7
  time : TimeBase
  /-- Ticks delivered and not yet taken (R75). -/
  ticks : Ticks
  /-- Step signals the Probe Engine has not yet taken, oldest first (R92). -/
  probeSignals : List Epoch
  /-- Step signals the Route Table has not yet taken, oldest first (R92). -/
  routeSignals : List Epoch
  probe : ProbeEngine
  routes : Vector Route 32
  classes : Vector ClassPolicy 4
  /-- The service pointer of the re-rank scan (R129). -/
  service : RouteIndex
  /-- The Route Table's taken epoch (R133). -/
  routeTaken : Epoch
  /-- The attention count (R135). -/
  attentionCount : Nat
  /-- Re-rank triggers the Route Table has not yet taken (R128). -/
  triggers : List Trigger
  steering : SteeringPort
  chan : Channel
  /-- What the owning block answered to the request last presented to it (log 6). -/
  reply : Reply
  /-- What the part has driven to its partners, oldest first (log 7). -/
  sent : List Emission
  deriving DecidableEq, Repr

/-- The profile table's power-on defaults, entries 1 to 7 (R58). -/
def defaultProfiles : Vector Half 7 := #v[25, 50, 100, 150, 200, 300, 400]

/-- The class policies' power-on defaults (R126). -/
def defaultClasses : Vector ClassPolicy 4 :=
  #v[⟨true, false, true, 0, 50000⟩, ⟨true, true, true, 0, 200000⟩,
     ⟨false, true, true, 0, 1048575⟩, ⟨false, true, false, 0, 0⟩]

/-- The part right after power-on reset, with no command waiting (R2, R12, R42, R54, R74, R94, R121,
R141, R161, R181). The frame-select wires are taken as inactive (log 9). -/
def State.reset : State where
  pending := []
  lines := Vector.replicate 8 (Line.initial false)
  arbiter := 0
  hops := Vector.replicate 64 (Hop.vacant 0)
  holds := Vector.replicate 8 none
  paths := Vector.replicate 128 (Path.vacant 0 0)
  profiles := defaultProfiles
  time := .initial
  ticks := .none
  probeSignals := []
  routeSignals := []
  probe := .initial
  routes := Vector.replicate 32 (Route.vacant 0)
  classes := defaultClasses
  service := 0
  routeTaken := 0
  attentionCount := 0
  triggers := []
  steering := .initial
  chan := .initial
  reply := .empty
  sent := []

end Sys2Proof.Machine
end

