-- ==== Sys2Proof/Machine/Ops.lean ====
section
/-! DEFINITION. The named updates of State: one operation per table or block, the re-rank triggers, the
device counters, and what is driven to the partners. -/

namespace Sys2Proof.Machine

/-- Report line `l` becomes `x`. -/
def State.setLine (l : LineIndex) (x : Line) (s : State) : State := { s with lines := s.lines.set l x }

/-- Hop record `h` becomes `x`; attention is accounted for by `State.putHop`. -/
def State.setHop (h : HopIndex) (x : Hop) (s : State) : State := { s with hops := s.hops.set h x }

/-- Path record `p` becomes `x`. -/
def State.setPath (p : PathIndex) (x : Path) (s : State) : State := { s with paths := s.paths.set p x }

/-- Route record `r` becomes `x`; attention is accounted for by `State.putRoute`. -/
def State.setRoute (r : RouteIndex) (x : Route) (s : State) : State := { s with routes := s.routes.set r x }

/-- The Time Base becomes `x`. -/
def State.setTime (x : TimeBase) (s : State) : State := { s with time := x }

/-- The Probe Engine becomes `x`. -/
def State.setProbe (x : ProbeEngine) (s : State) : State := { s with probe := x }

/-- The ticks delivered and not yet taken become `x`. -/
def State.setTicks (x : Ticks) (s : State) : State := { s with ticks := x }

/-- The Steering Port becomes `x`. -/
def State.setSteering (x : SteeringPort) (s : State) : State := { s with steering := x }

/-- The Maintenance Channel becomes `x`. -/
def State.setChan (x : Channel) (s : State) : State := { s with chan := x }

/-- The arbiter's search pointer becomes `x`. -/
def State.setArbiter (x : Fin 9) (s : State) : State := { s with arbiter := x }

/-- The owning block's answer becomes `x`. -/
def State.setReply (x : Reply) (s : State) : State := { s with reply := x }

/-- Probe slot `k` becomes `x`. -/
def State.setSlot (k : SlotIndex) (x : Slot) (s : State) : State :=
  s.setProbe { s.probe with slots := s.probe.slots.set k x }

/-- The device counters change by `f` (R119). -/
def State.countDevice (f : DeviceCounters → DeviceCounters) (s : State) : State :=
  s.setProbe { s.probe with counters := f s.probe.counters }

/-- The ticks a place has still to take. -/
def Ticks.owed (t : Ticks) : TickPlace → Nat
  | .hop h => t.hops[h]
  | .supervision => t.supervision
  | .slot k => t.slots[k]
  | .path p => t.paths[p]
  | .channel => t.channel

/-- A tick is delivered to every place (R75). -/
def Ticks.deliver (t : Ticks) : Ticks :=
  ⟨t.hops.map (· + 1), t.supervision + 1, t.slots.map (· + 1), t.paths.map (· + 1), t.channel + 1⟩

/-- A place takes one of the ticks it has still to take. -/
def Ticks.take (t : Ticks) : TickPlace → Ticks
  | .hop h => { t with hops := t.hops.set h (t.hops[h] - 1) }
  | .supervision => { t with supervision := t.supervision - 1 }
  | .slot k => { t with slots := t.slots.set k (t.slots[k] - 1) }
  | .path p => { t with paths := t.paths.set p (t.paths[p] - 1) }
  | .channel => { t with channel := t.channel - 1 }

/-- A re-rank trigger is sent to the Route Table when `b` holds (R128). -/
def State.triggerIf (b : Bool) (t : Trigger) (s : State) : State :=
  if b then { s with triggers := s.triggers ++ [t] } else s

/-- A re-rank trigger is sent to the Route Table (R128). -/
def State.trigger (t : Trigger) (s : State) : State := s.triggerIf true t

/-- Something is driven to a partner (log 7). -/
def State.emit (e : Emission) (s : State) : State := { s with sent := s.sent ++ [e] }

/-- Every probe slot that `victim` names is freed without loss counting (R101). -/
def State.freeSlots (victim : Slot → Bool) (s : State) : State :=
  s.setProbe { s.probe with slots := s.probe.slots.map fun k => if victim k then .free else k }

/-- The path an occupied slot names (R100). -/
def Slot.path? : Slot → Option PathIndex
  | .free => none
  | .queued p _ => some p
  | .sent p _ _ _ _ => some p

/-- The path and sequence an occupied slot holds (R100). -/
def Slot.key? : Slot → Option (PathIndex × Half)
  | .free => none
  | .queued p q => some (p, q)
  | .sent p q _ _ _ => some (p, q)

/-- Hop index `i` is held: some placed level's set contains it (R47). -/
def heldBy (holds : Vector (Option (BitVec 64)) 8) (i : HopIndex) : Bool :=
  holds.toList.any fun l => match l with
    | none => false
    | some set => set.getLsbD i

/-- Hop index `i` is held (R47). -/
def State.held (s : State) (i : HopIndex) : Bool := heldBy s.holds i

/-- The running indication of a hop's assigned line (R1, R27). -/
def State.lineRunning (s : State) (l : LineIndex) : Bool := decide (s.lines[l].state = .running)

/-- The hop list of a path: empty for FIBRE and VACANT (R56). -/
def PathBody.hops : PathBody → List HopIndex
  | .microwave hops => hops
  | _ => []

/-- A path is non-vacant (R55). -/
def Path.nonVacant (p : Path) : Bool := decide (p.body ≠ .vacant)

/-- A path is MICROWAVE (R55). -/
def Path.isMicrowave (p : Path) : Bool :=
  match p.body with
  | .microwave _ => true
  | _ => false

/-- A path is FIBRE (R55). -/
def Path.isFibre (p : Path) : Bool :=
  match p.body with
  | .fibre _ _ => true
  | _ => false

/-- A route is non-vacant (R123). -/
def Route.nonVacant (r : Route) : Bool := decide (r.state ≠ .vacant)

/-- A hop is in service (R17). -/
def Hop.inService (h : Hop) : Bool := decide (h.state ≠ .vacant)

/-- A route holds a path, as a candidate or as its fallback (R128). -/
def Route.holds (r : Route) (p : PathIndex) : Bool :=
  r.candidates.contains p || decide (r.fallback = some p)

end Sys2Proof.Machine
end

