-- ==== Sys2Proof/Machine/Flags.lean ====
section
/-! DEFINITION. Flags: the four interrupt vectors' pending flags (R168), the attention flags with the
attention count (R135), and the two operations that write a hop or route record with that accounting. -/

namespace Sys2Proof.Machine

/-- The flag of one vector. -/
def VectorFlags.get (f : VectorFlags) : IrqVector → Bool
  | .listEnded => f.listEnded
  | .progressNote => f.progressNote
  | .attention => f.attention
  | .timeState => f.timeState

/-- The flags with one vector's flag written. -/
def VectorFlags.put (f : VectorFlags) (v : IrqVector) (b : Bool) : VectorFlags :=
  match v with
  | .listEnded => { f with listEnded := b }
  | .progressNote => { f with progressNote := b }
  | .attention => { f with attention := b }
  | .timeState => { f with timeState := b }

/-- Raising a vector sets its pending flag (R168). -/
def State.raise (v : IrqVector) (s : State) : State :=
  s.setChan { s.chan with pendingIrq := s.chan.pendingIrq.put v true }

/-- The attention count follows one flag that goes from `old` to `new`; the rise of the count from 0 to 1
raises the attention vector (R135). -/
def State.countAttention (old new : Bool) (s : State) : State :=
  match old, new with
  | false, true =>
    let s' := { s with attentionCount := s.attentionCount + 1 }
    if s.attentionCount = 0 then s'.raise .attention else s'
  | true, false => { s with attentionCount := s.attentionCount - 1 }
  | _, _ => s

/-- A hop record is written, its attention flag counted in the same event (R135). -/
def State.putHop (i : HopIndex) (x : Hop) (s : State) : State :=
  (s.countAttention s.hops[i].attention x.attention).setHop i x

/-- A route record is written, its attention flag counted in the same event (R135). -/
def State.putRoute (i : RouteIndex) (x : Route) (s : State) : State :=
  (s.countAttention s.routes[i].attention x.attention).setRoute i x

/-- The number of hop and route records whose attention flag is set (R135). -/
def State.flagsSet (s : State) : Nat :=
  s.hops.toList.countP (·.attention) + s.routes.toList.countP (·.attention)

end Sys2Proof.Machine
end

