-- ==== Sys2Proof/Machine/Figures.lean ====
section
/-! DEFINITION. The figures that are derived afresh at each reading: hop usability (R32), the rate of a
profile (R58), r_min, N_p, E_p, S_p(n), L_p(n) (R60 to R63), path usability (R64), the probe interval
(R97), and the contenders of a choice (R130, R150). -/

namespace Sys2Proof.Machine

/-- The effective bad limit of a hop (R17). -/
def HopConfig.effectiveBadLimit (c : HopConfig) : Nat := effective c.badLimit.toNat

/-- The effective restore time of a hop (R17). -/
def HopConfig.effectiveRestore (c : HopConfig) : Nat := effective c.restore.toNat

/-- The effective loss limit of a path (R55). -/
def PathConfig.effectiveLossLimit (c : PathConfig) : Nat := effective c.lossLimit.toNat

/-- The effective echo timeout of a path (R55). -/
def PathConfig.effectiveEchoTimeout (c : PathConfig) : Nat := effective c.echoTimeout.toNat

/-- The effective rate of a profile in Mbit/s: 0 for profile 0, else the entry with 0 acting as 1 (R58). -/
def State.rate (s : State) (profile : BitVec 3) : Nat :=
  if profile = 0 then 0
  else effective (s.profiles[profile.toNat - 1]'(by have := profile.isLt; omega)).toNat

/-- r_min of a path body: the least rate over the hop list, the fibre rate, or 0 when VACANT (R60). -/
def State.minRate (s : State) : PathBody → Nat
  | .vacant => 0
  | .microwave hops => ((hops.map fun h => s.rate s.hops[h].profile).min?).getD 0
  | .fibre _ rate => rate.toNat

/-- N_p of a path body (R61); 0 when VACANT (R73). -/
def State.nominalLatency (s : State) : PathBody → Nat
  | .vacant => 0
  | .microwave hops =>
    min ((hops.map fun h =>
      s.hops[h].config.propagation.toNat + s.hops[h].config.regeneration.toNat).sum) Config.latencyMax
  | .fibre latency _ => latency.toNat

/-- An estimate in whole nanoseconds, halves up, clamped (R62). -/
def roundedEstimate (estimate : Nat) : Nat := min ((estimate + 8) / 16) Config.latencyMax

/-- E_p of a path (R62). -/
def State.latencyUsed (s : State) (p : Path) : Nat :=
  match p.status with
  | .steady => roundedEstimate p.estimate
  | _ => s.nominalLatency p.body

/-- S_p(n) for a rate of at least 1 (R63). -/
def serialization (n rate : Nat) : Nat := divUp (n * 8000) rate

/-- L_p(n) (R63). -/
def State.totalLatency (s : State) (p : PathIndex) (n : Nat) : Nat :=
  s.latencyUsed s.paths[p] + serialization n (s.minRate s.paths[p].body)

/-- A hop is usable for a class (R32, R51). -/
def State.hopUsable (s : State) (c : ClassIndex) (h : HopIndex) : Bool :=
  !s.held h &&
    match s.hops[h].state with
    | .clear => true
    | .fading => s.classes[c].tolerateFading
    | _ => false

/-- A path is usable for a class (R64). -/
def State.pathUsable (s : State) (c : ClassIndex) (p : PathIndex) : Bool :=
  let x := s.paths[p]
  x.nonVacant && !x.lost && decide (1 ≤ s.minRate x.body) && x.body.hops.all (s.hopUsable c)

/-- The full interval a path's probe timer is loaded with, as the path stands; none where the timer is
stopped (R97). -/
def State.fullInterval (s : State) (p : PathIndex) : Option Nat :=
  let x := s.paths[p]
  let interval := x.config.interval.toNat
  if !x.nonVacant || interval = 0 then none
  else if x.lost || !s.pathUsable 0 p then some (min (8 * interval) Config.slowIntervalMax)
  else some interval

/-- The path's probe timer is reloaded with a full interval, or stopped (R69, R97). -/
def State.reloadTimer (p : PathIndex) (s : State) : State :=
  s.setPath p { s.paths[p] with timer := s.fullInterval p }

/-- A contender of a choice: its path, its L_p(n), and whether it is the fallback (position 8). -/
structure Contender where
  path : PathIndex
  latency : Nat
  fallback : Bool
  deriving DecidableEq, Repr

/-- The contenders of a route for class `c` and length `n`, in order of position (R130, R150). -/
def State.contenders (s : State) (r : Route) (c : ClassIndex) (n : Nat) : List Contender :=
  let usable := r.candidates.filter (s.pathUsable c)
  let fallback := match r.fallback with
    | some p =>
      if s.pathUsable c p && (s.classes[c].fibreCompetes || usable.isEmpty) then
        [⟨p, s.totalLatency p n, true⟩]
      else []
    | none => []
  usable.map (fun p => ⟨p, s.totalLatency p n, false⟩) ++ fallback

/-- The contender with the least latency, ties to the earlier position (R130, R155). -/
def fastest (cs : List Contender) : Option Contender :=
  firstBest (fun a b => decide (a.latency < b.latency)) cs

end Sys2Proof.Machine
end

