-- ==== Sys2Proof/Machine/Formats.lean ====
section
/-! DEFINITION. Layouts of chapter 10: report frames (R182), probe and echo frames (R183), steering words
(R184, R185), the codes of the window (R188, R189), and every read image (R193 to R196). -/

namespace Sys2Proof.Machine

/-! ## The report frame (R182); byte 0 is the highest byte of the 64 bits -/

/-- The sync byte of a report frame. -/
def frameSync (f : BitVec 64) : Byte := f.extractLsb' 56 8

/-- The sum of the eight bytes of a report frame, modulo 256. -/
def frameSum (f : BitVec 64) : Byte :=
  f.extractLsb' 56 8 + f.extractLsb' 48 8 + f.extractLsb' 40 8 + f.extractLsb' 32 8 +
    f.extractLsb' 24 8 + f.extractLsb' 16 8 + f.extractLsb' 8 8 + f.extractLsb' 0 8

/-- The hop index byte of a report frame. -/
def frameHop (f : BitVec 64) : Byte := f.extractLsb' 48 8

/-- The line number a report frame carries. -/
def frameLine (f : BitVec 64) : LineIndex := Fin.ofNat 8 (f.extractLsb' 41 3).toNat

/-- The values a report hands to the Hop Table (R13, R182). -/
structure Report where
  profile : BitVec 3
  linkLost : Bool
  margin : Half
  errors : Byte
  deriving DecidableEq, Repr

/-- The report a frame carries (R182). -/
def frameReport (f : BitVec 64) : Report :=
  ⟨f.extractLsb' 45 3, f.getLsbD 44, f.extractLsb' 24 16, f.extractLsb' 16 8⟩

/-! ## Probe and echo frames (R183) -/

/-- The kind byte of a PROBE. -/
def probeKind : Byte := 1

/-- The kind byte of an ECHO. -/
def echoKind : Byte := 2

/-- A frame of 64 bytes: the header and stamps, the padding, and the check halfword that makes the 32
halfwords sum to 0 (R183). -/
def buildFrame (kind origin destination port pathIndex : Byte) (seq : Half) (t1 t2 t3 : Quad) : List Byte :=
  let body := [kind, origin, destination, port, pathIndex, 0] ++ beBytes 2 seq.toNat ++
    beBytes 8 t1.toNat ++ beBytes 8 t2.toNat ++ beBytes 8 t3.toNat ++ List.replicate 30 0
  body ++ beBytes 2 (-(halfwordSum body)).toNat

/-- The fields of a received frame that are examined (R105, R106, R109, R113). -/
structure ReceivedFrame where
  kind : Byte
  origin : Byte
  destination : Byte
  pathIndex : Byte
  seq : Half
  t1 : Quad
  t2 : Quad
  t3 : Quad
  deriving DecidableEq, Repr

/-- The fields of a received frame (R183). -/
def parseFrame (b : List Byte) : ReceivedFrame where
  kind := BitVec.ofNat 8 (beField b 0 1)
  origin := BitVec.ofNat 8 (beField b 1 1)
  destination := BitVec.ofNat 8 (beField b 2 1)
  pathIndex := BitVec.ofNat 8 (beField b 4 1)
  seq := BitVec.ofNat 16 (beField b 6 2)
  t1 := BitVec.ofNat 64 (beField b 8 8)
  t2 := BitVec.ofNat 64 (beField b 16 8)
  t3 := BitVec.ofNat 64 (beField b 24 8)

/-! ## Steering words (R184, R185) -/

/-- The tag of a first request word. -/
def requestTag (w : Word) : Byte := w.extractLsb' 24 8

/-- The site of a first request word. -/
def requestSite (w : Word) : RouteIndex := Fin.ofNat 32 (w.extractLsb' 16 5).toNat

/-- The class of a first request word. -/
def requestClass (w : Word) : ClassIndex := Fin.ofNat 4 (w.extractLsb' 0 2).toNat

/-- The effective length of a second request word: 0 is taken as 1 (R144). -/
def requestLength (w : Word) : BitVec 14 :=
  let n : BitVec 14 := w.extractLsb' 0 14
  if n = 0 then 1 else n

/-- The code of an answer (R185). -/
def AnswerCode.bits : AnswerCode → BitVec 4
  | .ok => 0
  | .noRoute => 1
  | .noPath => 2

/-- Word 0 of an answer (R185). -/
def Answer.word0 (a : Answer) : Word :=
  a.tag ++ a.code.bits ++ BitVec.ofBool a.held ++ BitVec.ofBool a.fallbackUsed ++
    BitVec.ofBool a.orderWaived ++ BitVec.ofBool a.timeInvalid ++ (0 : BitVec 1) ++
    BitVec.ofNat 7 a.path ++ (0 : BitVec 4) ++ a.port

/-- Word `i` of an answer, 0 to 5 (R185). -/
def Answer.word (a : Answer) (i : Nat) : Word :=
  match i with
  | 0 => a.word0
  | 1 => a.departure.extractLsb' 32 32
  | 2 => a.departure.extractLsb' 0 32
  | 3 => a.arrival.extractLsb' 32 32
  | 4 => a.arrival.extractLsb' 0 32
  | _ => a.hold.extractLsb' 0 32

/-! ## Codes (R188, R189, R193) -/

/-- The cause codes (R189). -/
def Cause.byte : Cause → Byte
  | .none => 0x00 | .generation => 0x01 | .inUse => 0x02 | .vacant => 0x03 | .levelPlaced => 0x04
  | .levelBelowFree => 0x05 | .levelFree => 0x06 | .timeUnset => 0x07 | .nonePending => 0x08
  | .flags => 0x10 | .code => 0x11 | .index => 0x12 | .count => 0x13 | .alignment => 0x14
  | .short => 0x18 | .long => 0x19 | .fetch => 0x20 | .dataRead => 0x21 | .dataWrite => 0x22
  | .doubleJump => 0x28 | .listLength => 0x29 | .action => 0x40 | .line => 0x41 | .profile => 0x42
  | .threshold => 0x43 | .limit => 0x44 | .delay => 0x45 | .kind => 0x48 | .port => 0x49
  | .farId => 0x4A | .interval => 0x4B | .shift => 0x4C | .hopCount => 0x4D | .hopIndex => 0x4E
  | .hopDuplicate => 0x4F | .hopVacant => 0x50 | .fibreLatency => 0x51 | .fibreRate => 0x52
  | .kindInUse => 0x53 | .switch => 0x58 | .maxHold => 0x59 | .candidateCount => 0x5A
  | .pathIndex => 0x5B | .candidateDuplicate => 0x5C | .candidateKind => 0x5D
  | .fallbackKind => 0x5E | .length => 0x5F | .stepLimit => 0x60 | .integral => 0x61
  | .proportional => 0x62 | .lead => 0x63

/-- End kind codes (R188). -/
def EndKind.code : EndKind → Byte
  | .none => 0
  | .normal => 1
  | .halted => 2
  | .requestCheck => 3
  | .lengthCheck => 4
  | .accessCheck => 5
  | .sequenceCheck => 6

/-- Last condition codes (R188). -/
def Condition.code : Condition → Byte
  | .none => 0
  | .done => 1
  | .mismatch => 2
  | .skipped => 3

/-- Channel state codes (R188). -/
def ChannelState.code : ChannelState → Byte
  | .idle => 0
  | .running => 1
  | .halting => 2
  | .ended => 3

/-- Time-base state codes (R188). -/
def TimeState.code : TimeState → Byte
  | .unset => 0
  | .set => 1
  | .tracking => 2
  | .holdover => 3

/-- Line state codes (R193). -/
def LineState.code : LineState → Byte
  | .stopped => 0
  | .running => 1
  | .suspending => 2
  | .suspended => 3

/-- Hop state codes (R193). -/
def HopState.code : HopState → Byte
  | .vacant => 0
  | .clear => 1
  | .fading => 2
  | .faded => 3
  | .down => 4

/-- Path kind codes (R193). -/
def PathBody.code : PathBody → Byte
  | .vacant => 0
  | .microwave _ => 1
  | .fibre _ _ => 2

/-- Estimate status codes (R193). -/
def EstimateStatus.code : EstimateStatus → Byte
  | .none => 0
  | .settling => 1
  | .steady => 2

/-- Route state codes (R193). -/
def RouteState.code : RouteState → Byte
  | .vacant => 0
  | .normal => 1
  | .fallback => 2
  | .dark => 3

/-! ## Read images (R193 to R196), little-endian -/

/-- A configuration in the WRITE-HOP layout, 24 bytes (R191). -/
def HopConfig.bytes (c : HopConfig) : List Byte :=
  leBytes 1 c.line ++ leBytes 1 c.nominal.toNat ++ leBytes 2 c.fade.toNat ++ leBytes 2 c.clear.toNat ++
    [c.errorLimit] ++ leBytes 1 c.badLimit.toNat ++ leBytes 2 c.restore.toNat ++ leBytes 2 c.silence.toNat ++
    leBytes 4 c.propagation.toNat ++ leBytes 2 c.regeneration.toNat ++ List.replicate 6 0

/-- The READ-HOP image, 56 bytes (R194). -/
def Hop.image (h : Hop) : List Byte :=
  [h.state.code] ++ leBytes 1 h.profile.toNat ++ [flagByte h.clearHold.isSome, flagByte h.attention] ++
    leBytes 2 h.margin.toNat ++ [h.errors] ++ leBytes 1 h.bad ++ leBytes 2 (h.clearHold.getD 0) ++
    leBytes 2 h.silence ++ leBytes 2 h.generation.toNat ++ [0, 0] ++ leBytes 8 h.stamp.toNat ++
    leBytes 4 h.outage ++ [0, 0, 0, 0] ++ h.config.bytes

/-- The fibre rate and latency of a body, 0 for the other kinds (R193). -/
def PathBody.fibreFigures : PathBody → Half × BitVec 24
  | .fibre latency rate => (rate, latency)
  | _ => (0, 0)

/-- Kind and configuration in the WRITE-PATH layout, 32 bytes; list positions beyond the count are 0
(R191, R193). -/
def Path.configBytes (p : Path) : List Byte :=
  let hops := p.body.hops
  [p.body.code] ++ leBytes 1 p.config.port.toNat ++ [p.config.farId] ++ leBytes 1 hops.length ++
    leBytes 2 p.config.asymmetry.toNat ++ leBytes 2 p.config.interval.toNat ++ [p.config.echoTimeout] ++
    leBytes 1 p.config.lossLimit.toNat ++ leBytes 1 p.config.shift.toNat ++ [0] ++
    leBytes 2 p.config.rejectWindow.toNat ++ leBytes 2 p.body.fibreFigures.1.toNat ++
    leBytes 4 p.body.fibreFigures.2.toNat ++
    ((hops.map fun h => BitVec.ofNat 8 h) ++ List.replicate 12 0).take 12

/-- The READ-PATH image, 64 bytes, with the derived figures of the same event (R73, R194). A stopped probe timer
holds no value and is shown as 0 (log 31). -/
def State.pathImage (s : State) (i : PathIndex) : List Byte :=
  let p := s.paths[i]
  p.configBytes ++ leBytes 4 p.estimate ++ [p.status.code] ++ leBytes 1 p.accepted ++
    leBytes 1 p.outlier ++ leBytes 1 p.loss ++ [flagByte p.lost, flagByte p.timer.isSome] ++
    leBytes 2 (p.timer.getD 0) ++ leBytes 2 p.nextSeq.toNat ++ leBytes 2 p.generation.toNat ++
    leBytes 2 (s.minRate p.body) ++ [0, 0] ++ leBytes 4 (s.nominalLatency p.body) ++
    leBytes 4 (s.latencyUsed p) ++ [0, 0, 0, 0]

/-- A route's configuration in the WRITE-ROUTE layout, 16 bytes (R191, R193). An absent fallback holds no index
and is shown as 0 (log 34). -/
def Route.configBytes (r : Route) : List Byte :=
  leBytes 1 r.candidates.length ++ [flagByte r.fallback.isSome] ++ leBytes 2 r.refLength.toNat ++
    leBytes 1 ((r.fallback.map Fin.val).getD 0) ++ [0, 0, 0] ++
    ((r.candidates.map fun p => BitVec.ofNat 8 p) ++ List.replicate 8 0).take 8

/-- The READ-ROUTE image, 80 bytes; contexts as stored (R140, R195). -/
def Route.image (r : Route) : List Byte :=
  let valid := r.contexts.toList.map Context.valid
  [r.state.code, flagByte r.attention, flagByte r.rerank, flagByte r.choice.isSome] ++
    leBytes 1 ((r.choice.map Fin.val).getD 0) ++ [0, 0, 0] ++ r.configBytes ++ leBytes 4 r.latency ++
    leBytes 2 r.generation.toNat ++
    leBytes 1 (valid.foldr (fun b acc => acc * 2 + b.toNat) 0) ++ [0] ++
    r.contexts.toList.flatMap (fun c => leBytes 8 c.last.toNat) ++
    leBytes 4 r.counters.ok ++ leBytes 4 r.counters.fallback ++ leBytes 4 r.counters.waived ++
    leBytes 4 r.counters.noPath

/-- The READ-CLASS image, 16 bytes (R192, R195). -/
def ClassPolicy.image (c : ClassPolicy) : List Byte :=
  [flagByte c.tolerateFading, flagByte c.fibreCompetes, flagByte c.ordering, 0] ++
    leBytes 2 c.gap.toNat ++ [0, 0] ++ leBytes 4 c.maxHold.toNat ++ [0, 0, 0, 0]

/-- The READ-PROFILES image, 16 bytes: entry 0 as 0, the others as written (R59, R195). -/
def profilesImage (entries : Vector Half 7) : List Byte :=
  leBytes 2 0 ++ entries.toList.flatMap fun e => leBytes 2 e.toNat

/-- The READ-HOLDS image, 72 bytes (R53, R195). -/
def holdsImage (holds : Vector (Option (BitVec 64)) 8) : List Byte :=
  leBytes 1 (holds.toList.foldr (fun l acc => acc * 2 + l.isSome.toNat) 0) ++ List.replicate 7 0 ++
    holds.toList.flatMap fun l => leBytes 8 (l.getD 0).toNat

/-- The READ-TIME image, 32 bytes (R90, R196). -/
def TimeBase.image (t : TimeBase) : List Byte :=
  leBytes 8 t.count.toNat ++ [t.state.code] ++ leBytes 1 t.epoch.toNat ++
    [flagByte t.supervision.isSome] ++ leBytes 1 t.integral.toNat ++ leBytes 1 t.proportional.toNat ++ [0] ++
    leBytes 2 (t.supervision.getD 0) ++ leBytes 4 (BitVec.ofInt 32 t.aInt).toNat ++
    leBytes 4 (BitVec.ofInt 32 t.aApp).toNat ++ leBytes 4 t.stepLimit.toNat ++
    leBytes 4 (BitVec.ofInt 32 t.lastError).toNat

/-- The READ-LINE image, 16 bytes (R16, R196). -/
def Line.image (l : Line) : List Byte :=
  [l.state.code, flagByte l.buffer.isSome] ++ leBytes 2 l.counters.absorbed ++
    leBytes 2 l.counters.checkErrors ++ leBytes 2 l.counters.lengthErrors ++
    leBytes 2 l.counters.unknownHop ++ leBytes 2 l.counters.misrouted ++ leBytes 2 l.counters.refused ++
    leBytes 2 l.counters.overrun

/-- The seventeen device counters in the order of R119. -/
def DeviceCounters.toList (c : DeviceCounters) : List Nat :=
  [c.probesSent, c.echoesMatched, c.unknownEchoes, c.timeouts, c.deferred, c.echoesSent, c.backlogDrops,
    c.lengthErrors, c.checkErrors, c.misdirected, c.looped, c.refused, c.stepDiscards, c.unusableEchoes,
    c.pulsesIgnored, c.spuriousPulses, c.steps]

/-- A slot is QUEUED (R100). -/
def Slot.isQueued : Slot → Bool
  | .queued _ _ => true
  | _ => false

/-- A slot is SENT (R100). -/
def Slot.isSent : Slot → Bool
  | .sent _ _ _ _ _ => true
  | _ => false

/-- The READ-DEVICE image, 80 bytes (R120, R196). -/
def ProbeEngine.image (p : ProbeEngine) : List Byte :=
  [p.terminalId] ++ leBytes 1 p.taken.toNat ++ leBytes 2 p.lead.toNat ++
    leBytes 1 (p.slots.toList.countP Slot.isQueued) ++ leBytes 1 (p.slots.toList.countP Slot.isSent) ++
    leBytes 1 p.backlog.length ++ [flagByte p.transmitter.isSome] ++
    p.counters.toList.flatMap (leBytes 4) ++ [0, 0, 0, 0]

/-- The COLLECT notice of a hop, 8 bytes (R136, R196). -/
def hopNotice (i : HopIndex) (h : Hop) : List Byte :=
  [1] ++ leBytes 1 i ++ [h.state.code, 1] ++ leBytes 1 h.profile.toNat ++ [0, 0, 0]

/-- The COLLECT notice of a route, 8 bytes (R136, R196). -/
def routeNotice (i : RouteIndex) (r : Route) : List Byte :=
  [2] ++ leBytes 1 i ++ [r.state.code, flagByte r.choice.isSome] ++
    leBytes 1 ((r.choice.map Fin.val).getD 0) ++ [0, 0, 0]

/-! ## Window reads (R162, R188) -/

/-- The completion word at 20h (R188). -/
def Completion.word (c : Completion) : BitVec 32 :=
  (0 : BitVec 8) ++ c.lastCondition.code ++ c.cause.byte ++ c.endKind.code

/-- The completion counts at 24h (R188). -/
def Completion.counts (c : Completion) : BitVec 32 := BitVec.ofNat 16 c.executed ++ c.residual

/-- The channel status word at 10h (R188). -/
def Channel.statusWord (c : Channel) : BitVec 32 :=
  (0 : BitVec 23) ++ BitVec.ofBool c.refusedStart ++ c.state.code

/-- The 4-byte window word at a byte offset (R188). -/
def State.windowWord (s : State) (offset : Nat) : BitVec 32 :=
  match offset with
  | 0x00 => s.chan.listAddress.extractLsb' 0 32
  | 0x04 => s.chan.listAddress.extractLsb' 32 32
  | 0x10 => s.chan.statusWord
  | 0x18 => s.chan.progress.extractLsb' 0 32
  | 0x1C => s.chan.progress.extractLsb' 32 32
  | 0x20 => s.chan.record.word
  | 0x24 => s.chan.record.counts
  | 0x28 => s.chan.record.lastBlock.extractLsb' 0 32
  | 0x2C => s.chan.record.lastBlock.extractLsb' 32 32
  | 0x30 => BitVec.ofNat 32 s.attentionCount
  | 0x34 => s.time.state.code.setWidth 32
  | _ => 0

/-- A host read of the window: 4 bytes at a multiple of 4, 8 bytes at a multiple of 8, else 0 (R188).
A read changes nothing, so it is a view of the state and no command. -/
def State.windowRead (s : State) (offset size : Nat) : Quad :=
  if size = 4 && offset % 4 = 0 then (s.windowWord offset).setWidth 64
  else if size = 8 && offset % 8 = 0 then s.windowWord (offset + 4) ++ s.windowWord offset
  else 0

end Sys2Proof.Machine
end

