-- ==== Sys2Proof/Machine/Operands.lean ====
section
/-! DEFINITION. Operands: content validation of the write images (R36, R67, R89, R99, R127, R137), what a
valid image configures, the layouts of the request block and the write images (R186, R191, R192), and the
request catalogue (R187). -/

namespace Sys2Proof.Machine

/-- The cause of the first check that fails, in order (R171 step 9). -/
def firstFailure (checks : List (Bool × Cause)) : Option Cause := (checks.find? (·.1)).map (·.2)

end Sys2Proof.Machine

namespace Sys2Proof

open Machine

/-! ## Content validation -/

/-- Content validation of WRITE-HOP (R36); each field is checked over its whole width (R190). -/
def HopImage.check (i : HopImage) : Option Cause :=
  firstFailure
    [(decide (7 < i.line.toNat), .line),
     (decide (i.nominal.toNat = 0 ∨ 7 < i.nominal.toNat), .profile),
     (decide (i.clear.toInt < i.fade.toInt), .threshold),
     (decide (15 < i.badLimit.toNat), .limit),
     (decide (1048575 < i.propagation.toNat ∨ 4095 < i.regeneration.toNat), .delay)]

/-- The configuration a valid WRITE-HOP image gives, stored as written (R37, R190). -/
def HopImage.config (i : HopImage) : HopConfig where
  line := Fin.ofNat 8 i.line.toNat
  nominal := i.nominal.setWidth 3
  fade := i.fade
  clear := i.clear
  errorLimit := i.errorLimit
  badLimit := i.badLimit.setWidth 4
  restore := i.restore
  silence := i.silence
  propagation := i.propagation.setWidth 20
  regeneration := i.regeneration.setWidth 12

/-- The hop positions of a WRITE-PATH image that are examined and stored (R67). -/
def PathImage.listed (i : PathImage) : List Byte := i.hops.toList.take i.hopCount.toNat

/-- The path body a valid WRITE-PATH image gives (R56, R67). -/
def PathImage.body (i : PathImage) : PathBody :=
  if i.kind = 1 then .microwave (i.listed.map fun b => Fin.ofNat 64 b.toNat)
  else .fibre (i.fibreLatency.setWidth 24) i.fibreRate

/-- The common configuration a valid WRITE-PATH image gives (R55). -/
def PathImage.config (i : PathImage) : PathConfig where
  port := i.port.setWidth 4
  farId := i.farId
  asymmetry := i.asymmetry
  interval := i.interval
  echoTimeout := i.echoTimeout
  lossLimit := i.lossLimit.setWidth 4
  rejectWindow := i.rejectWindow
  shift := i.shift.setWidth 3

/-- The checks of R67 that read the image alone: 1 to 9, 11 and 12. -/
def PathImage.staticChecks (i : PathImage) : List (Bool × Cause) × List (Bool × Cause) :=
  let microwave := decide (i.kind = 1)
  let fibre := decide (i.kind = 2)
  ([(!microwave && !fibre, .kind),
    (decide (15 < i.port.toNat), .port),
    (decide (i.farId = 0), .farId),
    (decide (Config.intervalMax < i.interval.toNat), .interval),
    (decide (15 < i.lossLimit.toNat), .limit),
    (decide (7 < i.shift.toNat), .shift),
    (microwave && decide (i.hopCount.toNat = 0 ∨ 12 < i.hopCount.toNat), .hopCount),
    (microwave && i.listed.any fun b => decide (63 < b.toNat), .hopIndex),
    (microwave && !decide i.listed.Nodup, .hopDuplicate)],
   [(fibre && decide (Config.latencyMax < i.fibreLatency.toNat), .fibreLatency),
    (fibre && decide (i.fibreRate = 0), .fibreRate)])

/-- A kind change on a path that a route references in the other role (R68). -/
def Machine.State.kindInUse (s : State) (p : PathIndex) (new : PathBody) : Bool :=
  match s.paths[p].body, new with
  | .microwave _, .fibre _ _ => s.routes.toList.any fun r => r.nonVacant && r.candidates.contains p
  | .fibre _ _, .microwave _ => s.routes.toList.any fun r => r.nonVacant && decide (r.fallback = some p)
  | _, _ => false

/-- Content validation of WRITE-PATH, the thirteen checks in order (R67, R68). -/
def PathImage.check (i : PathImage) (p : PathIndex) (s : State) : Option Cause :=
  firstFailure
    (i.staticChecks.1 ++
     [(i.body.hops.any fun h => !s.hops[h].inService, .hopVacant)] ++
     i.staticChecks.2 ++
     [(s.kindInUse p i.body, .kindInUse)])

/-- The candidate positions of a WRITE-ROUTE image that are examined and stored (R137). -/
def RouteImage.listed (i : RouteImage) : List Byte := i.candidates.toList.take i.count.toNat

/-- The candidate list a valid WRITE-ROUTE image gives (R138). -/
def RouteImage.candidateList (i : RouteImage) : List PathIndex :=
  i.listed.map fun b => Fin.ofNat 128 b.toNat

/-- The fallback a valid WRITE-ROUTE image gives (R138). -/
def RouteImage.fallbackPath (i : RouteImage) : Option PathIndex :=
  if i.fallbackPresent = 1 then some (Fin.ofNat 128 i.fallback.toNat) else none

/-- The checks of R137 that read the image alone: 1 to 4, and 7. -/
def RouteImage.staticChecks (i : RouteImage) : List (Bool × Cause) × List (Bool × Cause) :=
  ([(decide (8 < i.count.toNat), .candidateCount),
    (decide (1 < i.fallbackPresent.toNat), .switch),
    ((i.listed.any fun b => decide (127 < b.toNat)) ||
      decide (i.fallbackPresent = 1 ∧ 127 < i.fallback.toNat), .pathIndex),
    (!decide i.listed.Nodup, .candidateDuplicate)],
   [(decide (16383 < i.refLength.toNat), .length)])

/-- Content validation of WRITE-ROUTE, the seven checks in order (R137). -/
def RouteImage.check (i : RouteImage) (s : State) : Option Cause :=
  firstFailure
    (i.staticChecks.1 ++
     [(i.candidateList.any fun p => !s.paths[p].isMicrowave, .candidateKind),
      (match i.fallbackPath with
        | some p => !s.paths[p].isFibre
        | none => false, .fallbackKind)] ++
     i.staticChecks.2)

/-- Content validation of WRITE-CLASS (R127). -/
def ClassImage.check (i : ClassImage) : Option Cause :=
  firstFailure
    [(decide (1 < i.tolerateFading.toNat ∨ 1 < i.fibreCompetes.toNat ∨ 1 < i.ordering.toNat), .switch),
     (decide (Config.maxHoldMax < i.maxHold.toNat), .maxHold)]

/-- The policy a valid WRITE-CLASS image gives (R126, R127). -/
def ClassImage.policy (i : ClassImage) : ClassPolicy :=
  ⟨decide (i.tolerateFading = 1), decide (i.fibreCompetes = 1), decide (i.ordering = 1), i.gap,
    i.maxHold.setWidth 20⟩

/-- Content validation of WRITE-TIMING (R89). -/
def TimingImage.check (i : TimingImage) : Option Cause :=
  firstFailure
    [(decide (Config.stepLimitMax < i.stepLimit.toNat), .stepLimit),
     (decide (7 < i.integral.toNat), .integral),
     (decide (7 < i.proportional.toNat), .proportional)]

/-- Content validation of WRITE-DEVICE (R99). -/
def DeviceImage.check (i : DeviceImage) : Option Cause :=
  firstFailure [(decide (Config.leadMax < i.lead.toNat), .lead)]

end Sys2Proof

namespace Sys2Proof.Machine

/-- Content validation of a request, against the tables as they stand (R171 step 9, R175); requests
without a checked image pass. -/
def contentFault (i : Instr) (s : State) : Option Cause :=
  match i with
  | .writeHop _ image => image.check
  | .writePath p image => image.check p s
  | .writeRoute _ image => image.check s
  | .writeClass _ image => image.check
  | .writeTiming image => image.check
  | .writeDevice image => image.check
  | _ => none

/-! ## The request block (R186) -/

/-- The block at `address` whose 16 bytes are the little-endian number `w` (R186). -/
def parseBlock (address : Quad) (w : BitVec 128) : Block where
  address := address
  code := leField w 0 1
  flags := leField w 1 1
  index := leField w 2 2
  generation := leField w 4 2
  count := leField w 6 2
  dataAddress := leField w 8 8
  residual := 0

/-- CHAIN: flags bit 0 (R186). -/
def Block.chain (b : Block) : Bool := b.flags.getLsbD 0

/-- SKIP: flags bit 1 (R186). -/
def Block.skip (b : Block) : Bool := b.flags.getLsbD 1

/-- GEN: flags bit 2 (R186). -/
def Block.gen (b : Block) : Bool := b.flags.getLsbD 2

/-- SLEN: flags bit 3 (R186). -/
def Block.slen (b : Block) : Bool := b.flags.getLsbD 3

/-- NOTE: flags bit 4 (R186). -/
def Block.note (b : Block) : Bool := b.flags.getLsbD 4

/-- A reserved flag position, bits 5 to 7, is not 0 (R186). -/
def Block.reservedSet (b : Block) : Bool := decide (b.flags.extractLsb' 5 3 ≠ 0)

/-- The zero option: index bit 15 (R186). -/
def Block.zeroOption (b : Block) : Bool := b.index.getLsbD 15

/-! ## The catalogue (R187) -/

/-- The requests of the catalogue (R187). -/
inductive Request where
  | jump
  | readHop | writeHop | retireHop | clearHopCounts
  | readPath | writePath | retirePath | restartEstimate
  | readRoute | writeRoute | retireRoute
  | readClass | writeClass | writeProfiles | readProfiles
  | placeHold | releaseHold | readHolds
  | setTime | adjustTime | readTime | writeTiming
  | setLine | readLine
  | collect
  | readDevice | writeDevice
  deriving DecidableEq, Repr

/-- The four classes of request (R170). -/
inductive RequestClass where
  | flow
  | write
  | read
  | plain
  deriving DecidableEq, Repr

/-- A row of the catalogue: code, request, class, greatest index, image size in bytes (R187). -/
structure CatalogueRow where
  code : Byte
  request : Request
  cls : RequestClass
  indexMax : Nat
  size : Nat
  deriving DecidableEq, Repr

/-- The request catalogue (R187). -/
def catalogue : List CatalogueRow :=
  [⟨0x01, .jump, .flow, 0, 0⟩,
   ⟨0x10, .readHop, .read, 63, 56⟩,
   ⟨0x11, .writeHop, .write, 63, 24⟩,
   ⟨0x12, .retireHop, .plain, 63, 0⟩,
   ⟨0x13, .clearHopCounts, .plain, 63, 0⟩,
   ⟨0x20, .readPath, .read, 127, 64⟩,
   ⟨0x21, .writePath, .write, 127, 32⟩,
   ⟨0x22, .retirePath, .plain, 127, 0⟩,
   ⟨0x23, .restartEstimate, .plain, 127, 0⟩,
   ⟨0x30, .readRoute, .read, 31, 80⟩,
   ⟨0x31, .writeRoute, .write, 31, 16⟩,
   ⟨0x32, .retireRoute, .plain, 31, 0⟩,
   ⟨0x40, .readClass, .read, 3, 16⟩,
   ⟨0x41, .writeClass, .write, 3, 16⟩,
   ⟨0x42, .writeProfiles, .write, 0, 16⟩,
   ⟨0x43, .readProfiles, .read, 0, 16⟩,
   ⟨0x50, .placeHold, .write, 7, 8⟩,
   ⟨0x51, .releaseHold, .plain, 7, 0⟩,
   ⟨0x52, .readHolds, .read, 0, 72⟩,
   ⟨0x60, .setTime, .write, 0, 8⟩,
   ⟨0x61, .adjustTime, .write, 0, 8⟩,
   ⟨0x62, .readTime, .read, 0, 32⟩,
   ⟨0x63, .writeTiming, .write, 0, 8⟩,
   ⟨0x70, .setLine, .write, 7, 8⟩,
   ⟨0x71, .readLine, .read, 7, 16⟩,
   ⟨0x80, .collect, .read, 0, 8⟩,
   ⟨0x90, .readDevice, .read, 0, 80⟩,
   ⟨0x91, .writeDevice, .write, 0, 8⟩]

/-- The catalogue row of a request code (R187). -/
def catalogueRow (code : Byte) : Option CatalogueRow := catalogue.find? fun r => decide (r.code = code)

/-- The request's index carries a zero option in bit 15 (R16, R120, R186). -/
def Request.hasZeroOption : Request → Bool
  | .readLine | .readDevice => true
  | _ => false

/-- The index the range check looks at (R186). -/
def Block.checkedIndex (b : Block) (r : Request) : Nat :=
  if r.hasZeroOption then (b.index.extractLsb' 0 15).toNat else b.index.toNat

/-- The generation a request compares, none where it compares none (R173, R187). -/
def State.generationOf (s : State) (r : Request) (index : Half) : Option Half :=
  match r with
  | .readHop | .writeHop | .retireHop | .clearHopCounts =>
    some s.hops[(Fin.ofNat 64 index.toNat : HopIndex)].generation
  | .readPath | .writePath | .retirePath | .restartEstimate =>
    some s.paths[(Fin.ofNat 128 index.toNat : PathIndex)].generation
  | .readRoute | .writeRoute | .retireRoute =>
    some s.routes[(Fin.ofNat 32 index.toNat : RouteIndex)].generation
  | _ => none

/-! ## Write images (R191, R192), as the little-endian number the data read brought -/

/-- The WRITE-HOP layout (R191). -/
def parseHopImage (d : BitVec 256) : HopImage where
  line := leField d 0 1
  nominal := leField d 1 1
  fade := leField d 2 2
  clear := leField d 4 2
  errorLimit := leField d 6 1
  badLimit := leField d 7 1
  restore := leField d 8 2
  silence := leField d 10 2
  propagation := leField d 12 4
  regeneration := leField d 16 2

/-- The WRITE-PATH layout (R191). -/
def parsePathImage (d : BitVec 256) : PathImage where
  kind := leField d 0 1
  port := leField d 1 1
  farId := leField d 2 1
  hopCount := leField d 3 1
  asymmetry := leField d 4 2
  interval := leField d 6 2
  echoTimeout := leField d 8 1
  lossLimit := leField d 9 1
  shift := leField d 10 1
  rejectWindow := leField d 12 2
  fibreRate := leField d 14 2
  fibreLatency := leField d 16 4
  hops := tabulate 12 fun i => leField d (20 + i) 1

/-- The WRITE-ROUTE layout (R191). -/
def parseRouteImage (d : BitVec 256) : RouteImage where
  count := leField d 0 1
  fallbackPresent := leField d 1 1
  refLength := leField d 2 2
  fallback := leField d 4 1
  candidates := tabulate 8 fun i => leField d (8 + i) 1

/-- The WRITE-CLASS layout (R192). -/
def parseClassImage (d : BitVec 256) : ClassImage where
  tolerateFading := leField d 0 1
  fibreCompetes := leField d 1 1
  ordering := leField d 2 1
  gap := leField d 4 2
  maxHold := leField d 8 4

/-- The WRITE-PROFILES layout (R192). -/
def parseProfiles (d : BitVec 256) : Vector Half 7 := tabulate 7 fun i => leField d (2 * i) 2

/-- The WRITE-TIMING layout (R192). -/
def parseTimingImage (d : BitVec 256) : TimingImage := ⟨leField d 0 4, leField d 4 1, leField d 5 1⟩

/-- The WRITE-DEVICE layout (R192). -/
def parseDeviceImage (d : BitVec 256) : DeviceImage := ⟨leField d 0 1, leField d 2 2⟩

/-- The line action of a SET-LINE image: 1 RUN, 2 SUSPEND, 3 STOP, none for any other value (R3, R192). -/
def lineAction (l : LineIndex) (action : Byte) : Option Instr :=
  match action.toNat with
  | 1 => some (.run l)
  | 2 => some (.suspend l)
  | 3 => some (.stop l)
  | _ => none

/-- The apply that a block's request asks for, with the image its data read brought; none only for a
SET-LINE whose action is not RUN, SUSPEND or STOP (R3). -/
def Block.command (b : Block) (r : Request) (d : BitVec 256) : Option Instr :=
  let n := b.checkedIndex r
  let hop : HopIndex := Fin.ofNat 64 n
  let path : PathIndex := Fin.ofNat 128 n
  let route : RouteIndex := Fin.ofNat 32 n
  let cls : ClassIndex := Fin.ofNat 4 n
  let level : LevelIndex := Fin.ofNat 8 n
  match r with
  | .jump => some (.jump b.dataAddress)
  | .readHop => some (.readHop hop)
  | .writeHop => some (.writeHop hop (parseHopImage d))
  | .retireHop => some (.retireHop hop)
  | .clearHopCounts => some (.clearHopCounts hop)
  | .readPath => some (.readPath path)
  | .writePath => some (.writePath path (parsePathImage d))
  | .retirePath => some (.retirePath path)
  | .restartEstimate => some (.restartEstimate path)
  | .readRoute => some (.readRoute route)
  | .writeRoute => some (.writeRoute route (parseRouteImage d))
  | .retireRoute => some (.retireRoute route)
  | .readClass => some (.readClass cls)
  | .writeClass => some (.writeClass cls (parseClassImage d))
  | .writeProfiles => some (.writeProfiles (parseProfiles d))
  | .readProfiles => some .readProfiles
  | .placeHold => some (.placeHold level (leField d 0 8))
  | .releaseHold => some (.releaseHold level)
  | .readHolds => some .readHolds
  | .setTime => some (.setTime (leField d 0 8))
  | .adjustTime => some (.adjustTime (leField d 0 8))
  | .readTime => some .readTime
  | .writeTiming => some (.writeTiming (parseTimingImage d))
  | .setLine => lineAction (Fin.ofNat 8 n) (leField d 0 1)
  | .readLine => some (.readLine (Fin.ofNat 8 n) b.zeroOption)
  | .collect => some .collect
  | .readDevice => some (.readDevice b.zeroOption)
  | .writeDevice => some (.writeDevice (parseDeviceImage d))

end Sys2Proof.Machine
end

