-- ==== Sys2Proof/Machine/ListEngine.lean ====
section
/-! DEFINITION. The list engine of the Maintenance Channel: ending a list (R180), issuing a fetch (R169,
R172), reaching a condition with NOTE, CHAIN and SKIP (R176 to R179), the block checks (R171 to R174), and
what a request's answer from its owning block does to the block in execution (R176). -/

namespace Sys2Proof.Machine

/-- The list ends NORMAL or HALTED: the record keeps cause and last condition (R180). -/
def State.endList (kind : EndKind) (s : State) : State :=
  (s.setChan
    { s.chan with
      state := .ended
      work := .idle
      record := { s.chan.record with endKind := kind } }).raise .listEnded

/-- The list ends in a check: last condition NONE, residual 0, the last block address as given (R180). -/
def State.endCheck (kind : EndKind) (cause : Cause) (address : Quad) (s : State) : State :=
  (s.setChan
    { s.chan with
      state := .ended
      work := .idle
      record :=
        { s.chan.record with
          endKind := kind
          cause := cause
          lastBlock := address
          residual := 0
          lastCondition := .none } }).raise .listEnded

/-- A block fetch is about to be issued, for execution or of a skipped block: the list-length check (R172),
then bus mastering (R169), then the read. -/
def State.issueFetch (skipped : Bool) (address : Quad) (s : State) : State :=
  if !skipped && decide (Config.listLengthMax ≤ s.chan.record.executed) then
    s.endCheck .sequenceCheck .listLength address
  else if !s.chan.busMaster then s.endCheck .accessCheck .fetch address
  else
    s.setChan
      { s.chan with
        work := .fetching s.chan.nextTag address 0 skipped
        nextTag := s.chan.nextTag + 1
        record :=
          if skipped then s.chan.record else { s.chan.record with lastBlock := address } }

/-- The block is a JUMP (R170). -/
def Block.isJump (b : Block) : Bool := decide (b.code = 0x01)

/-- The address of the block after this one: a JUMP's data address, else this address plus 16 (R169). -/
def Block.nextAddress (b : Block) : Quad := if b.isJump then b.dataAddress else b.address + 16

/-- The completion record and the NOTE of a block that reaches its condition (R176 steps 1 to 3, R179). -/
def State.recordCondition (b : Block) (condition : Condition) (cause : Cause) (s : State) : State :=
  let s' := s.setChan
    { s.chan with
      work := .idle
      afterJump := b.isJump
      progress := if b.note then b.address else s.chan.progress
      record :=
        { s.chan.record with
          lastCondition := condition
          cause := cause
          residual := b.residual
          executed := s.chan.record.executed + 1 } }
  if b.note then s'.raise .progressNote else s'

/-- A block reaches its condition: the record and the note, then CHAIN and SKIP (R165, R176 to R179). -/
def State.reachCondition (b : Block) (condition : Condition) (cause : Cause) (s : State) : State :=
  let s' := s.recordCondition b condition cause
  if !b.chain then s'.endList .normal
  else if s.chan.state = .halting then s'.endList .halted
  else if condition = .mismatch && b.skip then s'.issueFetch true (b.address + 16)
  else s'.issueFetch false b.nextAddress

/-- The block in execution waits for its apply, or waits for something else. -/
def State.awaiting (s : State) : Option (Block × Instr) :=
  match s.chan.work with
  | .applying b i => some (b, i)
  | _ => none

/-- The owning block has answered the request of block `b`: a request that failed content validation ends
the list, an image goes to be written, truncated to the count, and every other answer is the block's
condition (R174, R176). -/
def State.finishApply (b : Block) (r : Reply) (s : State) : State :=
  if r.condition = .none then s.endCheck .requestCheck r.cause b.address
  else if r.image.isEmpty then s.reachCondition b r.condition r.cause
  else s.setChan { s.chan with work := .writing b (r.image.take b.count.toNat) b.dataAddress }

/-- A request is presented to its owning block outside the hop update arbiter: the answer is kept, and
when the block in execution waits for this very apply it goes on (R176, log 4). -/
def State.settle (i : Instr) (out : State × Reply) : State :=
  let s := out.1.setReply out.2
  match s.awaiting with
  | some (b, j) => if j = i then s.finishApply b out.2 else s
  | none => s

/-- Content validation stands before the apply: a request whose image fails it changes nothing but the
answer (R171 step 9, R190). -/
def guarded (i : Instr) (apply : State → State × Reply) (s : State) : State × Reply :=
  match contentFault i s with
  | some cause => (s, ⟨.none, cause, []⟩)
  | none => apply s

/-- A request completes DONE, with no image. -/
def Reply.done : Reply := ⟨.done, .none, []⟩

/-- A request ends in MISMATCH. -/
def Reply.mismatch (cause : Cause) : Reply := ⟨.mismatch, cause, []⟩

/-- A read request completes DONE with the image it took. -/
def Reply.read (image : List Byte) : Reply := ⟨.done, .none, image⟩

/-! ## The checks of one block (R171) -/

/-- The outcome of the checks of steps 2 to 7 on a fetched block. -/
inductive CheckOutcome where
  /-- The list ends in a check. -/
  | ends (kind : EndKind) (cause : Cause)
  /-- Step 6 failed: the request ends in MISMATCH with cause GENERATION. -/
  | stale
  /-- Every check passed: the row, and the block with its residual. -/
  | passes (row : CatalogueRow) (block : Block)
  deriving DecidableEq, Repr

/-- The cause of step 7's failure, if it fails (R174). -/
def lengthFault (cls : RequestClass) (count size : Nat) (slen : Bool) : Option Cause :=
  if size < count then (if slen then none else some .long)
  else if count < size then (if slen && cls = .read then none else some .short)
  else none

/-- Steps 2 to 7 for a block whose request is in the catalogue and that passed step 2 (R171). -/
def State.checkRow (s : State) (b : Block) (row : CatalogueRow) : CheckOutcome :=
  let data := decide (row.cls = .write ∨ row.cls = .read)
  let alignment := if row.cls = .flow then 16 else 8
  if row.indexMax < b.checkedIndex row.request then .ends .requestCheck .index
  else if data && b.count = 0 then .ends .requestCheck .count
  else if (data || row.cls = .flow) && b.dataAddress.toNat % alignment ≠ 0 then
    .ends .requestCheck .alignment
  else if b.gen && (s.generationOf row.request b.index).any fun g => decide (g ≠ b.generation) then .stale
  else if data then
    match lengthFault row.cls b.count.toNat row.size b.slen with
    | some cause => .ends .lengthCheck cause
    | none => .passes row { b with residual := BitVec.ofNat 16 (b.count.toNat - row.size) }
  else .passes row b

/-- Steps 2 to 7 of R171: FLAGS before CODE before DOUBLE-JUMP, then the row's checks. -/
def State.checkBlock (s : State) (b : Block) : CheckOutcome :=
  if b.reservedSet then .ends .requestCheck .flags
  else
    match catalogueRow b.code with
    | none => .ends .requestCheck .code
    | some row =>
      if row.request = .jump && s.chan.afterJump then .ends .sequenceCheck .doubleJump
      else s.checkRow b row

/-- A block that passed steps 2 to 7: a write request's data read is issued, or fails at once with bus
mastering disabled (R169, R175); every other request waits for its apply. -/
def State.proceed (row : CatalogueRow) (b : Block) (s : State) : State :=
  if row.cls = .write then
    if !s.chan.busMaster then s.endCheck .accessCheck .dataRead b.address
    else
      s.setChan
        { s.chan with
          work := .reading s.chan.nextTag b 0
          nextTag := s.chan.nextTag + 1 }
  else
    match b.command row.request 0 with
    | some i => s.setChan { s.chan with work := .applying b i }
    | none => s

/-- A fetched block is checked step by step towards its apply (R171). -/
def State.takeBlock (b : Block) (s : State) : State :=
  match s.checkBlock b with
  | .ends kind cause => s.endCheck kind cause b.address
  | .stale => s.reachCondition b .mismatch .generation
  | .passes row b' => s.proceed row b'

/-- The image of a write request has been read: content validation, then the wait for the apply (R171
steps 8 to 10, R175). -/
def State.takeData (b : Block) (d : BitVec 256) (s : State) : State :=
  match (catalogueRow b.code).bind fun row => b.command row.request d with
  | none => s.endCheck .requestCheck .action b.address
  | some i =>
    match contentFault i s with
    | some cause => s.endCheck .requestCheck cause b.address
    | none => s.setChan { s.chan with work := .applying b i }

end Sys2Proof.Machine
end

