-- ==== Sys2Proof/Machine/Channel.lean ====
section
/-! DEFINITION. The Maintenance Channel (chapter 9): the four control commands, the window and configuration
writes, completions and timeouts of bus-master reads, JUMP, interrupt messages, and posted image writes. -/

namespace Sys2Proof.Machine

/-! ## Control commands (R164 to R167) -/

/-- START at the channel (R164). -/
def State.startList (s : State) : State :=
  if s.chan.state = .idle then
    let begun := s.setChan
      { s.chan with
        state := .running
        refusedStart := false
        record := .zero
        progress := 0
        afterJump := false }
    if s.chan.listAddress.toNat % 16 = 0 then begun.issueFetch false s.chan.listAddress
    else begun.endCheck .requestCheck .alignment s.chan.listAddress
  else s.setChan { s.chan with refusedStart := true }

/-- HALT at the channel (R165): acts in RUNNING alone. -/
def State.haltList (s : State) : State :=
  if s.chan.state = .running then s.setChan { s.chan with state := .halting } else s

/-- ACK at the channel (R166): acts in ENDED alone. -/
def State.ackList (s : State) : State :=
  if s.chan.state = .ended then s.setChan { s.chan with state := .idle } else s

/-- CLEAR at the channel (R167): the block in execution is abandoned, an outstanding read forgotten. -/
def State.clearChannel (s : State) : State :=
  s.setChan
    { s.chan with
      state := .idle
      refusedStart := false
      record := .zero
      progress := 0
      work := .idle
      afterJump := false }

/-- START (R164). -/
def execStart (s : State) : Host.Outcome State Fault Refusal := .next s.startList

/-- HALT (R165). -/
def execHalt (s : State) : Host.Outcome State Fault Refusal := .next s.haltList

/-- ACK (R166). -/
def execAck (s : State) : Host.Outcome State Fault Refusal := .next s.ackList

/-- CHANNEL_CLEAR (R167). -/
def execChannelClear (s : State) : Host.Outcome State Fault Refusal := .next s.clearChannel

/-! ## Window and configuration writes (R162, R163, R181, R188) -/

/-- A control value: 1 START, 2 HALT, 3 CLEAR, 4 ACK, any other discarded (R163, R188). -/
def State.control (v : BitVec 32) (s : State) : State :=
  match v.toNat with
  | 1 => s.startList
  | 2 => s.haltList
  | 3 => s.clearChannel
  | 4 => s.ackList
  | _ => s

/-- A 4-byte write to the word at an offset; read-only words discard it (R162, R188). -/
def State.writeWord (offset : Nat) (v : BitVec 32) (s : State) : State :=
  match offset with
  | 0x00 => s.setChan { s.chan with listAddress := s.chan.listAddress.extractLsb' 32 32 ++ v }
  | 0x04 => s.setChan { s.chan with listAddress := v ++ s.chan.listAddress.extractLsb' 0 32 }
  | 0x08 => s.control v
  | _ => s

/-- WINDOW_WRITE (R162, R188): 4 bytes at a multiple of 4; 8 bytes at a multiple of 8 act on both words in
one event; any other access is discarded. -/
def execWindowWrite (offset size : Nat) (value : Quad) (s : State) : Host.Outcome State Fault Refusal :=
  if size = 4 && offset % 4 = 0 then .next (s.writeWord offset (value.extractLsb' 0 32))
  else if size = 8 && offset % 8 = 0 then
    .next ((s.writeWord offset (value.extractLsb' 0 32)).writeWord (offset + 4) (value.extractLsb' 32 32))
  else .next s

/-- CONFIGURATION_WRITE (R181). -/
def execConfigurationWrite (setting : ConfigSetting) (s : State) : Host.Outcome State Fault Refusal :=
  match setting with
  | .busMaster on => .next (s.setChan { s.chan with busMaster := on })
  | .messages on => .next (s.setChan { s.chan with messages := on })
  | .mask v on => .next (s.setChan { s.chan with masks := s.chan.masks.put v on })

/-! ## Bus-master reads (R169, R171, R175, R178) -/

/-- BLOCK_FETCH_COMPLETE (R171): the completion of the outstanding fetch for execution, as its tag tells; a
completion of a forgotten read is discarded (R167, log 8). -/
def execBlockFetchComplete (tag : Nat) (block : Option (BitVec 128)) (s : State) :
    Host.Outcome State Fault Refusal :=
  match s.chan.work with
  | .fetching t address _ false =>
    if t = tag then
      match block with
      | none => .next (s.endCheck .accessCheck .fetch address)
      | some w => .next (s.takeBlock (parseBlock address w))
    else .next s
  | _ => .next s

/-- DATA_READ_COMPLETE (R175): the image of a write request has been read, or a read of it failed. -/
def execDataReadComplete (tag : Nat) (data : Option (BitVec 256)) (s : State) :
    Host.Outcome State Fault Refusal :=
  match s.chan.work with
  | .reading t b _ =>
    if t = tag then
      match data with
      | none => .next (s.endCheck .accessCheck .dataRead b.address)
      | some d => .next (s.takeData b d)
    else .next s
  | _ => .next s

/-- A skipped block's record: its address, SKIPPED, cause NONE, residual 0 (R178). -/
def State.recordSkip (address : Quad) (s : State) : State :=
  s.setChan
    { s.chan with
      work := .idle
      record :=
        { s.chan.record with
          lastBlock := address
          lastCondition := .skipped
          cause := .none
          residual := 0 } }

/-- A skipped block's fetch has completed: its CHAIN flag decides (R165, R178). -/
def State.skipBlock (b : Block) (s : State) : State :=
  let s' := s.recordSkip b.address
  if !b.chain then s'.endList .normal
  else if s.chan.state = .halting then s'.endList .halted
  else s'.issueFetch false (b.address + 16)

/-- SKIPPED_BLOCK_FETCH_COMPLETE (R178). -/
def execSkippedBlockFetchComplete (tag : Nat) (block : Option (BitVec 128)) (s : State) :
    Host.Outcome State Fault Refusal :=
  match s.chan.work with
  | .fetching t address _ true =>
    if t = tag then
      match block with
      | none => .next (s.endCheck .accessCheck .fetch address)
      | some w => .next (s.skipBlock (parseBlock address w))
    else .next s
  | _ => .next s

/-- An outstanding read has waited 50 ticks, counting the one just taken: it has failed (R169, log 28). -/
def State.readTimeout (s : State) : State :=
  match s.chan.work with
  | .fetching _ address ticks _ =>
    if Config.readTimeout ≤ ticks then s.endCheck .accessCheck .fetch address else s
  | .reading _ b ticks =>
    if Config.readTimeout ≤ ticks then s.endCheck .accessCheck .dataRead b.address else s
  | _ => s

/-- JUMP (R170, R171): at the channel itself it sets the next block's address and completes DONE. -/
def execJump (target : Quad) (s : State) : Host.Outcome State Fault Refusal :=
  .next (State.settle (.jump target) (s, .done))

/-! ## Messages and image writes (R168, R176) -/

/-- INTERRUPT_MESSAGE (R168): sent when the flag is set, messages are enabled and the vector is not masked;
the flag is cleared in the event. Otherwise nothing is sent (log 3). -/
def execInterruptMessage (v : IrqVector) (s : State) : Host.Outcome State Fault Refusal :=
  if s.chan.pendingIrq.get v && s.chan.messages && !s.chan.masks.get v then
    .next ((s.setChan { s.chan with pendingIrq := s.chan.pendingIrq.put v false }).emit (.message v))
  else .next s

/-- A posted write of the next `n` bytes of the image; the one that carries all that is left is the last
(R176). With bus mastering disabled it is not issued and the list ends (R176). -/
def State.issueImageWrite (n : Nat) (s : State) : State :=
  match s.chan.work with
  | .writing b left next =>
    if n = 0 then s
    else if !s.chan.busMaster then s.endCheck .accessCheck .dataWrite b.address
    else
      let s' := s.emit (.hostWrite next (left.take n))
      if left.length ≤ n then s'.reachCondition b .done .none
      else s'.setChan { s'.chan with work := .writing b (left.drop n) (next + BitVec.ofNat 64 n) }
  | _ => s

/-- IMAGE_WRITE_ISSUED (R176). -/
def execImageWriteIssued (bytes : Nat) (s : State) : Host.Outcome State Fault Refusal :=
  .next (s.issueImageWrite bytes)

end Sys2Proof.Machine
end

