-- ==== Sys2Proof/Machine/Holds.lean ====
section
/-! DEFINITION. The Hold Unit (chapter 3): placing and releasing hold levels, the change of held status at
the hop records, and READ-HOLDS. -/

namespace Sys2Proof.Machine

/-- A hop whose held status changes: the clear-hold timer stopped at 0, the silence timer at 0 (R48, R50). -/
def Hop.heldChange (h : Hop) : Hop := { h with clearHold := none, silence := 0 }

/-- An in-service hop whose held status differs between two settings of the levels (R47). -/
def State.heldChanges (s : State) (holds : Vector (Option (BitVec 64)) 8) (i : HopIndex) : Bool :=
  s.hops[i].inService && (s.held i != heldBy holds i)

/-- The levels become `holds`: in the same event every in-service hop whose held status changes takes the
effects of R48 and R50 and triggers a re-rank naming it (R33, R47). -/
def State.changeHolds (holds : Vector (Option (BitVec 64)) 8) (s : State) : State :=
  { s with
    holds := holds
    hops := tabulate 64 fun i => if s.heldChanges holds i then s.hops[i].heldChange else s.hops[i]
    triggers := s.triggers ++ ((List.finRange 64).filter (s.heldChanges holds)).map .hop }

/-- The level below `k` is free (R45); level 0 has none below it. -/
def State.belowFree (s : State) (k : LevelIndex) : Bool :=
  decide (0 < k.val) && s.holds[k.val - 1].isNone

/-- The apply of PLACE-HOLD (R45). -/
def applyPlaceHold (k : LevelIndex) (map : BitVec 64) (s : State) : State × Reply :=
  if s.holds[k].isSome then (s, .mismatch .levelPlaced)
  else if s.belowFree k then (s, .mismatch .levelBelowFree)
  else (s.changeHolds (s.holds.set k (some map)), .done)

/-- The levels with level `k` and every level above it freed (R46). -/
def freeFrom (k : LevelIndex) (holds : Vector (Option (BitVec 64)) 8) : Vector (Option (BitVec 64)) 8 :=
  tabulate 8 fun j => if k.val ≤ j.val then none else holds[j]

/-- The apply of RELEASE-HOLD (R46). -/
def applyReleaseHold (k : LevelIndex) (s : State) : State × Reply :=
  if s.holds[k].isNone then (s, .mismatch .levelFree)
  else (s.changeHolds (freeFrom k s.holds), .done)

/-- PLACE_HOLD (R45). -/
def execPlaceHold (k : LevelIndex) (map : BitVec 64) (s : State) : Host.Outcome State Fault Refusal :=
  .next (State.settle (.placeHold k map) (applyPlaceHold k map s))

/-- RELEASE_HOLD (R46). -/
def execReleaseHold (k : LevelIndex) (s : State) : Host.Outcome State Fault Refusal :=
  .next (State.settle (.releaseHold k) (applyReleaseHold k s))

/-- READ_HOLDS (R53). -/
def execReadHolds (s : State) : Host.Outcome State Fault Refusal :=
  .next (State.settle .readHolds (s, .read (holdsImage s.holds)))

end Sys2Proof.Machine
end

