-- ==== Sys2Proof/Machine/HopTable.lean ====
section
/-! DEFINITION. The Hop Table (chapter 2): classifying and absorbing reports, the condition state machine,
the timers' advance and expiry, and the four hop requests with the channel's turn at the arbiter. -/

namespace Sys2Proof.Machine

/-! ## Reports (R19 to R25) -/

/-- The class of a report (R19). -/
inductive ReportClass where
  | good
  | marginal
  | bad
  deriving DecidableEq, Repr

/-- A report is classified against the hop's configuration; margins compare as signed numbers (R19). -/
def classify (c : HopConfig) (r : Report) : ReportClass :=
  if r.linkLost || r.profile = 0 || r.margin.toInt < c.fade.toInt || c.errorLimit.toNat < r.errors.toNat then
    .bad
  else if r.margin.toInt < c.clear.toInt || r.profile.toNat < c.nominal.toNat then .marginal
  else .good

/-- The values a report copies into the record, and the silence timer's zero (R20 steps 1 and 2). -/
def Hop.copyReport (h : Hop) (r : Report) (stamp : Quad) : Hop :=
  { h with profile := r.profile, margin := r.margin, errors := r.errors, stamp := stamp, silence := 0 }

/-- Entry to DOWN, by link-lost or silence (R25, R28, R34). -/
def Hop.enterDown (h : Hop) : Hop :=
  { h with
    state := .down
    bad := h.config.effectiveBadLimit
    clearHold := none
    silence := 0
    attention := true }

/-- A BAD report in CLEAR or FADING: the counter goes up and the clear-hold timer stops; at the limit the
hop enters FADED with attention (R21, R22, R34). -/
def Hop.countBad (h : Hop) : Hop :=
  if h.bad + 1 = h.config.effectiveBadLimit then
    { h with state := .faded, bad := h.bad + 1, clearHold := none, attention := true }
  else { h with bad := h.bad + 1, clearHold := none }

/-- The clear-hold timer started from 0 if it is stopped; a running one continues (R22, R23). -/
def Hop.startClearHold (h : Hop) : Hop := { h with clearHold := some (h.clearHold.getD 0) }

/-- A report without link-lost acts on the state by its class (R21 to R24). -/
def Hop.judgeClass (h : Hop) (c : ReportClass) : Hop :=
  match h.state, c with
  | .clear, .good => { h with bad := 0 }
  | .clear, .marginal => { h with state := .fading }
  | .clear, .bad => h.countBad
  | .fading, .good => { h with bad := 0 }.startClearHold
  | .fading, .marginal => { h with clearHold := none }
  | .fading, .bad => h.countBad
  | .faded, .good => h.startClearHold
  | .faded, .marginal => { h with clearHold := none }
  | .faded, .bad => { h with clearHold := none }
  | .down, .good => { h with state := .faded, clearHold := some 0, attention := true }
  | .down, .marginal => { h with state := .faded, attention := true }
  | .down, .bad => { h with state := .faded, attention := true }
  | .vacant, _ => h

/-- The change a report makes to the record of a hop that is not held (R20 step 3, R25). -/
def Hop.judge (h : Hop) (r : Report) : Hop :=
  if r.linkLost then (if h.state = .down then h else h.enterDown)
  else h.judgeClass (classify h.config r)

/-- A report is absorbed by hop `i`: copied always, judged unless the hop is held; a change of state and a
change of profile each trigger a re-rank (R20, R33, R49). -/
def State.absorb (i : HopIndex) (r : Report) (stamp : Quad) (s : State) : State :=
  let h := s.hops[i]
  let copied := h.copyReport r stamp
  let h' := if s.held i then copied else copied.judge r
  ((s.putHop i h').triggerIf (decide (h'.state ≠ h.state)) (.hop i)).triggerIf
    (decide (h'.profile ≠ h.profile)) (.hop i)

/-! ## Timers (R26 to R30) -/

/-- The conditions under which the silence timer counts (R27). -/
def Hop.silenceCounts (h : Hop) (held running : Bool) : Bool :=
  decide (h.state ≠ .vacant) && decide (h.state ≠ .down) && !held && running &&
    decide (h.config.silence ≠ 0)

/-- A millisecond tick at a hop record: the outage accumulator and the timers advance where they count; a
VACANT or held record does not move (R26, R27, R29, R49). -/
def Hop.advance (h : Hop) (held running : Bool) : Hop :=
  if held || decide (h.state = .vacant) then h
  else
    { h with
      outage :=
        if h.state = .faded ∨ h.state = .down then satInc Config.max32 h.outage else h.outage
      clearHold := h.clearHold.map (satInc Config.max16)
      silence := if h.silenceCounts held running then satInc Config.max16 h.silence else h.silence }

/-- The clear-hold timer, read after a tick, has reached the effective restore time (R26). -/
def Hop.clearHoldDue (h : Hop) (held : Bool) : Bool :=
  !held && decide (h.state = .fading ∨ h.state = .faded) &&
    h.clearHold.any fun v => decide (h.config.effectiveRestore ≤ v)

/-- Clear-hold expiry: CLEAR, the timer stopped; from FADED the counter is set to 0 with attention (R26). -/
def Hop.expireClearHold (h : Hop) : Hop :=
  if h.state = .faded then { h with state := .clear, bad := 0, clearHold := none, attention := true }
  else { h with state := .clear, clearHold := none }

/-- The silence timer counts and has reached the silence limit (R28). It is read after the tick has counted, so
a limit of 1 is reached by the tick that follows a report at once (log 30). -/
def Hop.silenceDue (h : Hop) (held running : Bool) : Bool :=
  h.silenceCounts held running && decide (h.config.silence.toNat ≤ h.silence)

/-- The clear-hold expiry of hop `i`, if the tick just taken makes it due: a change of state, so a re-rank
(R26, R33). -/
def State.clearHoldExpiry (i : HopIndex) (s : State) : State :=
  if s.hops[i].clearHoldDue (s.held i) then (s.putHop i s.hops[i].expireClearHold).trigger (.hop i) else s

/-- The silence expiry of hop `i`, if the tick just taken makes it due: entry to DOWN with attention and a
re-rank (R28, R33). -/
def State.silenceExpiry (i : HopIndex) (s : State) : State :=
  if s.hops[i].silenceDue (s.held i) (s.lineRunning s.hops[i].config.line) then
    (s.putHop i s.hops[i].enterDown).trigger (.hop i)
  else s

/-! ## Hop requests (R36 to R41) -/

/-- WRITE-HOP on a VACANT index (R37). -/
def Hop.enterService (h : Hop) (c : HopConfig) : Hop :=
  { Hop.vacant (h.generation + 1) with
    state := .down
    config := c
    bad := c.effectiveBadLimit
    attention := true }

/-- WRITE-HOP on an in-service hop (R38). -/
def Hop.rewrite (h : Hop) (c : HopConfig) : Hop :=
  { h with
    config := c
    bad := if h.state = .faded ∨ h.state = .down then c.effectiveBadLimit else 0
    silence := if c.line ≠ h.config.line then 0 else h.silence
    generation := h.generation + 1 }

/-- The apply of WRITE-HOP (R37, R38). -/
def applyWriteHop (i : HopIndex) (image : HopImage) (s : State) : State × Reply :=
  let h := s.hops[i]
  let h' := if h.inService then h.rewrite image.config else h.enterService image.config
  ((s.putHop i h').trigger (.hop i), .done)

/-- The apply of READ-HOP (R41). -/
def applyReadHop (i : HopIndex) (s : State) : State × Reply := (s, .read s.hops[i].image)

/-- Some non-vacant path lists hop `i` (R39). -/
def State.hopListed (s : State) (i : HopIndex) : Bool :=
  s.paths.toList.any fun p => p.body.hops.contains i

/-- The apply of RETIRE-HOP (R39). -/
def applyRetireHop (i : HopIndex) (s : State) : State × Reply :=
  if s.hopListed i then (s, .mismatch .inUse)
  else
    let h := s.hops[i]
    ((s.putHop i (Hop.vacant (h.generation + 1))).triggerIf h.inService (.hop i), .done)

/-- The apply of CLEAR-HOP-COUNTS (R40). -/
def applyClearHopCounts (i : HopIndex) (s : State) : State × Reply :=
  (s.putHop i { s.hops[i] with outage := 0, errors := 0 }, .done)

/-- The apply of a hop request at its record; none for a command that is no hop request (R14). -/
def hopApply (i : Instr) (s : State) : Option (State × Reply) :=
  match i with
  | .readHop h => some (applyReadHop h s)
  | .writeHop h image => some (guarded i (applyWriteHop h image) s)
  | .retireHop h => some (applyRetireHop h s)
  | .clearHopCounts h => some (applyClearHopCounts h s)
  | _ => none

/-! ## The hop update arbiter (R12 to R14) -/

/-- A command is a hop request (R14). -/
def Instr.isHopRequest : Instr → Bool
  | .readHop _ | .writeHop _ _ | .retireHop _ | .clearHopCounts _ => true
  | _ => false

/-- Position M of the arbiter (R12). -/
def positionM : Fin 9 := 8

/-- The Maintenance Channel has a hop request waiting (R14). -/
def State.maintenanceRequests (s : State) : Bool := s.awaiting.any fun w => Instr.isHopRequest w.2

/-- A position of the arbiter has a request (R10, R12, R14). -/
def State.requests (s : State) (pos : Fin 9) : Bool :=
  if h : pos.val < 8 then s.lines[(⟨pos.val, h⟩ : LineIndex)].buffer.isSome else s.maintenanceRequests

/-- The nine positions in circular order from the pointer (R12). -/
def searchOrder (pointer : Fin 9) : List (Fin 9) := (List.range 9).map fun k => Fin.ofNat 9 (pointer.val + k)

/-- The position the next turn is granted to, if any has a request (R12). -/
def State.granted (s : State) : Option (Fin 9) := (searchOrder s.arbiter).find? s.requests

/-- The pointer after a grant: the position after the granted one (R12). -/
def State.passPointer (pos : Fin 9) (s : State) : State := s.setArbiter (Fin.ofNat 9 (pos.val + 1))

/-- The channel's turn, when the arbiter grants it: the waiting hop request is applied and answered (R14).
Nothing changes when the next grant is not position M (log 3). -/
def State.maintenanceTurn (s : State) : State :=
  if s.granted = some positionM then
    match s.awaiting with
    | some (b, i) =>
      match hopApply i (s.passPointer positionM) with
      | some out => (out.1.setReply out.2).finishApply b out.2
      | none => s
    | none => s
  else s

/-- MAINTENANCE_TURN (R14). -/
def execMaintenanceTurn (s : State) : Host.Outcome State Fault Refusal := .next s.maintenanceTurn

/-- A hop request as a command: when it is the one the channel has waiting at the arbiter, the command is
the channel's turn; otherwise it is the apply at the record alone (R14, log 4). -/
def State.hopRequest (i : Instr) (out : State × Reply) (s : State) : State :=
  if s.awaiting.any fun w => decide (w.2 = i) then s.maintenanceTurn else out.1.setReply out.2

/-- READ_HOP (R41). -/
def execReadHop (h : HopIndex) (s : State) : Host.Outcome State Fault Refusal :=
  .next (s.hopRequest (.readHop h) (applyReadHop h s))

/-- WRITE_HOP (R36 to R38). -/
def execWriteHop (h : HopIndex) (image : HopImage) (s : State) : Host.Outcome State Fault Refusal :=
  .next (s.hopRequest (.writeHop h image) (guarded (.writeHop h image) (applyWriteHop h image) s))

/-- RETIRE_HOP (R39). -/
def execRetireHop (h : HopIndex) (s : State) : Host.Outcome State Fault Refusal :=
  .next (s.hopRequest (.retireHop h) (applyRetireHop h s))

/-- CLEAR_HOP_COUNTS (R40). -/
def execClearHopCounts (h : HopIndex) (s : State) : Host.Outcome State Fault Refusal :=
  .next (s.hopRequest (.clearHopCounts h) (applyClearHopCounts h s))

/-! ## A line's turn (R13) -/

/-- What the turn does with the buffered frame: unknown hop, misrouted, or absorbed (R13). The buffer is
already empty. -/
def State.dealWithFrame (l : LineIndex) (x : Buffered) (s : State) : State :=
  let line := s.lines[l]
  let c := line.counters
  let misrouted := s.setLine l { line with counters := { c with misrouted := satInc Config.max16 c.misrouted } }
  let unknown := s.setLine l { line with counters := { c with unknownHop := satInc Config.max16 c.unknownHop } }
  if h : (frameHop x.frame).toNat < 64 then
    let i : HopIndex := ⟨(frameHop x.frame).toNat, h⟩
    if !s.hops[i].inService then unknown
    else if frameLine x.frame ≠ s.hops[i].config.line || frameLine x.frame ≠ l then misrouted
    else
      (s.setLine l { line with counters := { c with absorbed := satInc Config.max16 c.absorbed } }).absorb i
        (frameReport x.frame) x.stamp
  else unknown

/-- A line's turn at the arbiter: pointer moved, buffer emptied, the frame dealt with (R12, R13). -/
def State.lineTurn (l : LineIndex) (s : State) : State :=
  match s.lines[l].buffer with
  | some x =>
    let s' := s.passPointer (Fin.ofNat 9 l.val)
    (s'.setLine l { s.lines[l] with buffer := none }).dealWithFrame l x
  | none => s

/-- LINE_TURN (R13): the turn of the line the arbiter grants; nothing changes when the next grant is not
a line's (log 3). -/
def execLineTurn (s : State) : Host.Outcome State Fault Refusal :=
  match s.granted with
  | some pos => if h : pos.val < 8 then .next (s.lineTurn ⟨pos.val, h⟩) else .next s
  | none => .next s

end Sys2Proof.Machine
end

