-- ==== Sys2Proof/Machine/Lines.lean ====
section
/-! DEFINITION. The report lines (chapter 1): gathering and checking a frame, the three line actions, and
READ-LINE. The turn at the hop update arbiter is in Machine/HopTable.lean. -/

namespace Sys2Proof.Machine

/-- A line counter of 16 bits counts one more (R11). -/
def countLine (n : Nat) : Nat := satInc Config.max16 n

/-- Frame-select becomes active: on an idle shift stage a frame begins, admitted if the line is RUNNING (R8).
A frame-select that is active already does not become active (log 3). -/
def Line.frameBegin (x : Line) : Line :=
  if x.frameSelect then x
  else
    { x with
      frameSelect := true
      stage := some (x.stage.getD ⟨decide (x.state = .running), 0, 0⟩) }

/-- One more bit in the shift stage: the first 64 are kept, the count holds at 65 (R8). -/
def Stage.shift (g : Stage) (bit : Bool) : Stage :=
  { g with
    bits := if g.count < 64 then (g.bits <<< 1) ||| (BitVec.ofBool bit).setWidth 64 else g.bits
    count := min (g.count + 1) 65 }

/-- A clock edge is sampled while frame-select is active on a frame that is gathered (R2, R6, R8). -/
def Line.clockEdge (x : Line) (bit : Bool) : Line :=
  if x.frameSelect then { x with stage := x.stage.map fun g => g.shift bit } else x

/-- The five cases of a frame's end, the first that applies (R9). -/
def Line.dealWithEnd (x : Line) (g : Stage) (now : Quad) : Line :=
  let c := x.counters
  if g.count ≠ 64 then { x with counters := { c with lengthErrors := countLine c.lengthErrors } }
  else if !g.admitted then { x with counters := { c with refused := countLine c.refused } }
  else if frameSync g.bits ≠ 0xA5 || frameSum g.bits ≠ 0 then
    { x with counters := { c with checkErrors := countLine c.checkErrors } }
  else if x.buffer.isNone then { x with buffer := some ⟨g.bits, now⟩ }
  else { x with counters := { c with overrun := countLine c.overrun } }

/-- A SUSPENDING line becomes SUSPENDED once its frame has been dealt with (R9). -/
def Line.settleSuspend (x : Line) : Line :=
  if x.state = .suspending then { x with state := .suspended } else x

/-- Frame-select becomes inactive at the time value `now`: the frame in the stage ends and is dealt with; a
frame that STOP or a reset discarded ends unseen (R2, R6, R9). -/
def Line.frameEnd (x : Line) (now : Quad) : Line :=
  if !x.frameSelect then x
  else
    match x.stage with
    | none => { x with frameSelect := false }
    | some g => ({ x with frameSelect := false, stage := none }.dealWithEnd g now).settleSuspend

/-- RUN (R4): every state goes to RUNNING; a frame in progress keeps its admitted note. -/
def Line.run (x : Line) : Line := { x with state := .running }

/-- A frame that began in RUNNING is still on the wire (R1, R5). -/
def Line.admittedInProgress (x : Line) : Bool := x.stage.any (·.admitted)

/-- SUSPEND (R5): acts on a RUNNING line alone. SUSPENDING exists only while a frame that began in RUNNING
is on the wire (R1), so a refused frame in progress does not hold the line in it (log 14), and neither does a
frame that STOP or a reset discarded in progress and that is still on the wire after RUN (log 29). -/
def Line.suspend (x : Line) : Line :=
  if x.state = .running then
    { x with state := if x.admittedInProgress then .suspending else .suspended }
  else x

/-- STOP (R6): STOPPED at once, the frame in progress and the buffered frame discarded uncounted. -/
def Line.stop (x : Line) : Line := { x with state := .stopped, stage := none, buffer := none }

/-- READ-LINE's zero option sets the seven counters to 0 in the event of the reading (R16). -/
def Line.afterRead (x : Line) (zero : Bool) : Line := if zero then { x with counters := .zero } else x

/-- REPORT_FRAME_BEGIN (R8). -/
def execReportFrameBegin (l : LineIndex) (s : State) : Host.Outcome State Fault Refusal :=
  .next (s.setLine l s.lines[l].frameBegin)

/-- REPORT_CLOCK_EDGE (R8). -/
def execReportClockEdge (l : LineIndex) (bit : Bool) (s : State) : Host.Outcome State Fault Refusal :=
  .next (s.setLine l (s.lines[l].clockEdge bit))

/-- REPORT_FRAME_END (R9): the stamp is the nanosecond count, whatever the time-base state (R78). -/
def execReportFrameEnd (l : LineIndex) (s : State) : Host.Outcome State Fault Refusal :=
  .next (s.setLine l (s.lines[l].frameEnd s.time.count))

/-- RUN (R4), applied at the line and completing DONE (R3). -/
def execRun (l : LineIndex) (s : State) : Host.Outcome State Fault Refusal :=
  .next (State.settle (.run l) (s.setLine l s.lines[l].run, .done))

/-- SUSPEND (R5), applied at the line and completing DONE (R3). -/
def execSuspend (l : LineIndex) (s : State) : Host.Outcome State Fault Refusal :=
  .next (State.settle (.suspend l) (s.setLine l s.lines[l].suspend, .done))

/-- STOP (R6), applied at the line and completing DONE (R3). -/
def execStop (l : LineIndex) (s : State) : Host.Outcome State Fault Refusal :=
  .next (State.settle (.stop l) (s.setLine l s.lines[l].stop, .done))

/-- READ_LINE (R16). -/
def execReadLine (l : LineIndex) (zero : Bool) (s : State) : Host.Outcome State Fault Refusal :=
  .next (State.settle (.readLine l zero)
    (s.setLine l (s.lines[l].afterRead zero), .read s.lines[l].image))

end Sys2Proof.Machine
end

