-- ==== Sys2Proof/Machine/Routes.lean ====
section
/-! DEFINITION. The Route Table (chapter 7): re-rank triggers, recomputation of the standing choice, class
policies, ordering contexts, COLLECT, and the route requests. -/

namespace Sys2Proof.Machine

/-! ## Recomputation (R129 to R131) -/

/-- The effective reference length of a route (R123). -/
def Route.effectiveLength (r : Route) : Nat := effective r.refLength.toNat

/-- The state that goes with a choice (R131). -/
def choiceState (best : Option Contender) : RouteState :=
  match best with
  | none => .dark
  | some c => if c.fallback then .fallback else .normal

/-- A route with the choice a recomputation made: state, latency, re-rank needed and attention (R130, R131). -/
def Route.decided (r : Route) (best : Option Contender) : Route :=
  let choice := best.map Contender.path
  let state := choiceState best
  { r with
    state := state
    choice := choice
    latency := (best.map Contender.latency).getD 0
    rerank := false
    attention := r.attention || decide (choice ≠ r.choice) || decide (state ≠ r.state) }

/-- The recomputation of a route record against the tables as they stand: class 0, the effective reference
length, no ordering (R130). -/
def State.recomputed (s : State) (r : Route) : Route :=
  r.decided (fastest (s.contenders r 0 r.effectiveLength))

/-- Route `i` is recomputed in one event (R130, R131). -/
def State.recompute (i : RouteIndex) (s : State) : State := s.putRoute i (s.recomputed s.routes[i])

/-- The first route with re-rank needed met in index order from the service pointer, circularly (R129). -/
def State.nextMarked (s : State) : Option RouteIndex :=
  ((List.range 32).map fun k => (Fin.ofNat 32 (s.service.val + k) : RouteIndex)).find? fun i =>
    s.routes[i].rerank

/-- RECOMPUTATION (R129, R130): the next marked route; the pointer moves to the route after it. Nothing
changes when no route is marked (log 3). -/
def execRecomputation (s : State) : Host.Outcome State Fault Refusal :=
  match s.nextMarked with
  | some i => .next { s.recompute i with service := Fin.ofNat 32 (i.val + 1) }
  | none => .next s

/-! ## Triggers (R128) -/

/-- A trigger marks this route, judged against the path table as it stands (R128). -/
def State.marks (s : State) (t : Trigger) (r : Route) : Bool :=
  r.nonVacant &&
    match t with
    | .hop h => r.candidates.any fun p => s.paths[p].body.hops.contains h
    | .path p => r.holds p
    | .all => true

/-- The routes that `marked` names have re-rank needed set (R128, R129). -/
def State.mark (marked : Route → Bool) (s : State) : State :=
  { s with routes := s.routes.map fun r => if marked r then { r with rerank := true } else r }

/-- RE_RANK_TRIGGER (R128): the Route Table takes one waiting trigger. A trigger that was not sent is not
taken (log 3, log 18). -/
def execReRankTrigger (t : Trigger) (s : State) : Host.Outcome State Fault Refusal :=
  if s.triggers.contains t then .next { s.mark (s.marks t) with triggers := s.triggers.erase t } else .next s

/-! ## Class policies (R127) -/

/-- The apply of WRITE-CLASS (R127): the policy, the class's context in every route, and re-rank needed in
every non-vacant route. -/
def applyWriteClass (c : ClassIndex) (image : ClassImage) (s : State) : State × Reply :=
  ({ s with
      classes := s.classes.set c image.policy
      routes := s.routes.map fun r =>
        { r with contexts := r.contexts.set c .invalid, rerank := r.rerank || r.nonVacant } },
    .done)

/-- WRITE_CLASS (R127). -/
def execWriteClass (c : ClassIndex) (image : ClassImage) (s : State) : Host.Outcome State Fault Refusal :=
  .next (State.settle (.writeClass c image) (guarded (.writeClass c image) (applyWriteClass c image) s))

/-- READ_CLASS (R127). -/
def execReadClass (c : ClassIndex) (s : State) : Host.Outcome State Fault Refusal :=
  .next (State.settle (.readClass c) (s, .read s.classes[c].image))

/-! ## Ordering contexts (R133) -/

/-- Every context of a route invalid, with A_last 0 (R133). -/
def Route.invalidate (r : Route) : Route := { r with contexts := Vector.replicate 4 .invalid }

/-- STEP_SIGNAL_ROUTE_TABLE (R133): the oldest signal is taken; every context of every route is invalidated
and the taken epoch moves to the signal's. Nothing changes when no signal waits (log 3). -/
def execStepSignalRouteTable (s : State) : Host.Outcome State Fault Refusal :=
  match s.routeSignals with
  | e :: rest =>
    .next { s with routes := s.routes.map Route.invalidate, routeTaken := e, routeSignals := rest }
  | [] => .next s

/-! ## COLLECT (R136) -/

/-- The first hop with attention set (R136). -/
def State.attentiveHop (s : State) : Option HopIndex :=
  (List.finRange 64).find? fun i => s.hops[i].attention

/-- The first route with attention set (R136). -/
def State.attentiveRoute (s : State) : Option RouteIndex :=
  (List.finRange 32).find? fun i => s.routes[i].attention

/-- The apply of COLLECT: hops in order, then routes (R136). -/
def applyCollect (s : State) : State × Reply :=
  match s.attentiveHop with
  | some i => (s.putHop i { s.hops[i] with attention := false }, .read (hopNotice i s.hops[i]))
  | none =>
    match s.attentiveRoute with
    | some i => (s.putRoute i { s.routes[i] with attention := false }, .read (routeNotice i s.routes[i]))
    | none => (s, .mismatch .nonePending)

/-- COLLECT (R136). -/
def execCollect (s : State) : Host.Outcome State Fault Refusal :=
  .next (State.settle .collect (applyCollect s))

/-! ## Route requests (R137 to R140) -/

/-- Steps 1 to 4 of WRITE-ROUTE at the record (R138). -/
def Route.rewrite (r : Route) (image : RouteImage) : Route :=
  { r with
    candidates := image.candidateList
    fallback := image.fallbackPath
    refLength := image.refLength.setWidth 14
    contexts := Vector.replicate 4 .invalid
    counters := if r.nonVacant then r.counters else .zero
    attention := r.attention || !r.nonVacant
    generation := r.generation + 1 }

/-- The apply of WRITE-ROUTE (R138): the record is rewritten and recomputed. -/
def applyWriteRoute (i : RouteIndex) (image : RouteImage) (s : State) : State × Reply :=
  (s.putRoute i (s.recomputed (s.routes[i].rewrite image)), .done)

/-- The apply of RETIRE-ROUTE (R139). -/
def applyRetireRoute (i : RouteIndex) (s : State) : State × Reply :=
  (s.putRoute i (Route.vacant (s.routes[i].generation + 1)), .done)

/-- WRITE_ROUTE (R137, R138). -/
def execWriteRoute (r : RouteIndex) (image : RouteImage) (s : State) : Host.Outcome State Fault Refusal :=
  .next (State.settle (.writeRoute r image) (guarded (.writeRoute r image) (applyWriteRoute r image) s))

/-- RETIRE_ROUTE (R139). -/
def execRetireRoute (r : RouteIndex) (s : State) : Host.Outcome State Fault Refusal :=
  .next (State.settle (.retireRoute r) (applyRetireRoute r s))

/-- READ_ROUTE (R140). -/
def execReadRoute (r : RouteIndex) (s : State) : Host.Outcome State Fault Refusal :=
  .next (State.settle (.readRoute r) (s, .read s.routes[r].image))

end Sys2Proof.Machine
end

