-- ==== Sys2Proof/Machine/PathTable.lean ====
section
/-! DEFINITION. The Path Table (chapter 4): the profile table, WRITE-PATH, RETIRE-PATH, RESTART-ESTIMATE and
READ-PATH. -/

namespace Sys2Proof.Machine

/-! ## The profile table (R58, R59) -/

/-- The apply of WRITE-PROFILES: the seven entries together, and a re-rank of all routes (R59). -/
def applyWriteProfiles (entries : Vector Half 7) (s : State) : State × Reply :=
  ({ s with profiles := entries }.trigger .all, .done)

/-- WRITE_PROFILES (R59). -/
def execWriteProfiles (entries : Vector Half 7) (s : State) : Host.Outcome State Fault Refusal :=
  .next (State.settle (.writeProfiles entries) (applyWriteProfiles entries s))

/-- READ_PROFILES (R59). -/
def execReadProfiles (s : State) : Host.Outcome State Fault Refusal :=
  .next (State.settle .readProfiles (s, .read (profilesImage s.profiles)))

/-! ## WRITE-PATH (R69, R70) -/

/-- A write keeps the geometry: same kind, and for MICROWAVE the same hop list (R69). -/
def PathBody.sameGeometry (old new : PathBody) : Bool :=
  match old, new with
  | .microwave a, .microwave b => decide (a = b)
  | .fibre _ _, .fibre _ _ => true
  | _, _ => false

/-- The record after a write that keeps the geometry, but for its probe timer (R70). -/
def Path.rewrite (x : Path) (image : PathImage) : Path :=
  { x with
    body := image.body
    config := image.config
    loss := if image.config.lossLimit ≠ x.config.lossLimit then 0 else x.loss
    generation := x.generation + 1 }

/-- The record after a write that changes the geometry, but for its probe timer (R69). -/
def Path.renew (x : Path) (image : PathImage) : Path :=
  { Path.vacant x.nextSeq (x.generation + 1) with body := image.body, config := image.config }

/-- A slot names path `p` (R100). -/
def Slot.names (p : PathIndex) (k : Slot) : Bool := decide (k.path? = some p)

/-- The apply of WRITE-PATH (R69, R70). -/
def applyWritePath (p : PathIndex) (image : PathImage) (s : State) : State × Reply :=
  let x := s.paths[p]
  if x.body.sameGeometry image.body then
    let s' := s.setPath p (x.rewrite image)
    ((if image.config.interval ≠ x.config.interval then s'.reloadTimer p else s').trigger (.path p), .done)
  else
    ((((s.setPath p (x.renew image)).reloadTimer p).freeSlots (Slot.names p)).trigger (.path p), .done)

/-- WRITE_PATH (R67 to R70). -/
def execWritePath (p : PathIndex) (image : PathImage) (s : State) : Host.Outcome State Fault Refusal :=
  .next (State.settle (.writePath p image) (guarded (.writePath p image) (applyWritePath p image) s))

/-! ## RETIRE-PATH (R71) -/

/-- A route without path `p`: the gap closed, the fallback made absent (R71 steps 1 and 2). -/
def Route.dropPath (r : Route) (p : PathIndex) : Route :=
  { r with
    candidates := r.candidates.filter fun q => decide (q ≠ p)
    fallback := if r.fallback = some p then none else r.fallback }

/-- A non-vacant route that holds path `p` loses it and is re-ranked; others stay (R71 steps 1, 2, 5). -/
def State.dropFromRoute (p : PathIndex) (s : State) (i : RouteIndex) : State :=
  let r := s.routes[i]
  if r.nonVacant && r.holds p then s.putRoute i (s.recomputed (r.dropPath p)) else s

/-- The apply of RETIRE-PATH (R71). -/
def applyRetirePath (p : PathIndex) (s : State) : State × Reply :=
  let x := s.paths[p]
  let emptied := (s.setPath p (Path.vacant x.nextSeq (x.generation + 1))).freeSlots (Slot.names p)
  (((List.finRange 32).foldl (State.dropFromRoute p) emptied).trigger (.path p), .done)

/-- RETIRE_PATH (R71). -/
def execRetirePath (p : PathIndex) (s : State) : Host.Outcome State Fault Refusal :=
  .next (State.settle (.retirePath p) (applyRetirePath p s))

/-! ## RESTART-ESTIMATE and READ-PATH (R72, R73) -/

/-- The apply of RESTART-ESTIMATE (R72). -/
def applyRestartEstimate (p : PathIndex) (s : State) : State × Reply :=
  if s.paths[p].nonVacant then
    ((s.setPath p { s.paths[p] with status := .none, accepted := 0, outlier := 0 }).trigger (.path p), .done)
  else (s, .mismatch .vacant)

/-- RESTART_ESTIMATE (R72). -/
def execRestartEstimate (p : PathIndex) (s : State) : Host.Outcome State Fault Refusal :=
  .next (State.settle (.restartEstimate p) (applyRestartEstimate p s))

/-- READ_PATH (R73). -/
def execReadPath (p : PathIndex) (s : State) : Host.Outcome State Fault Refusal :=
  .next (State.settle (.readPath p) (s, .read (s.pathImage p)))

end Sys2Proof.Machine
end

