-- ==== Sys2Proof/Machine/TimeBase.lean ====
section
/-! DEFINITION. The Time Base (chapter 5): the per-period advance, the reference pulse, steps and their
signal, the time-base states, and the four time requests. -/

namespace Sys2Proof.Machine

/-! ## The advance (R75, R76) -/

/-- The nanosecond count and the fraction after one oscillator period: one carry or one borrow (R76). -/
def advanceTime (count : Quad) (fraction aApp : Int) : Quad × Int :=
  let f := fraction + 8 * aApp
  if Config.attosPerNano ≤ f then (count + 8 + 1, f - Config.attosPerNano)
  else if f < 0 then (count + 8 - 1, f + Config.attosPerNano)
  else (count + 8, f)

/-- With this period 125,000 periods have passed since the previous tick (R75). -/
def TimeBase.tickFalls (t : TimeBase) : Bool := decide (Config.periodsPerTick ≤ t.periods + 1)

/-- One oscillator period at the Time Base: the time value advances (R76) and the period is counted (R75). -/
def TimeBase.period (t : TimeBase) : TimeBase :=
  let advanced := advanceTime t.count t.fraction t.aApp
  { t with
    count := advanced.1
    fraction := advanced.2
    periods := if t.tickFalls then 0 else t.periods + 1 }

/-- OSCILLATOR_PERIOD (R75, R76): the time value advances, and the tick that falls due is delivered to every
place that takes it (log 11). -/
def execOscillatorPeriod (s : State) : Host.Outcome State Fault Refusal :=
  .next ((s.setTime s.time.period).setTicks (if s.time.tickFalls then s.ticks.deliver else s.ticks))

/-! ## Steps and states (R91 to R93) -/

/-- A step is taken: the epoch goes up by 1 modulo 16, the step signal is sent to both receivers, and the
steps counter counts (R91, R92). -/
def State.makeStep (s : State) : State :=
  let e := s.time.epoch + 1
  let s' := (s.setTime { s.time with epoch := e }).countDevice fun c =>
    { c with steps := satInc Config.max32 c.steps }
  { s' with probeSignals := s.probeSignals ++ [e], routeSignals := s.routeSignals ++ [e] }

/-- The time-base state becomes `x`; a change raises the time-state vector (R93). -/
def State.enterTimeState (x : TimeState) (s : State) : State :=
  let s' := s.setTime { s.time with state := x }
  if s.time.state = x then s' else s'.raise .timeState

/-! ## The reference pulse (R80 to R84) -/

/-- The pulse error of a count: its distance from the nearest whole second, halves up (R81). -/
def pulseError (count : Quad) : Int :=
  let c : Int := count.toNat
  let second : Int := Config.second
  c - second * ((c + 500000000) / second)

/-- An adjustment brought into range (R77). -/
def clampAdjustment (a : Int) : Int := clamp (-Config.adjustmentLimit) Config.adjustmentLimit a

/-- A pulse that corrects by rate (R82). -/
def TimeBase.correctRate (t : TimeBase) (e : Int) : TimeBase :=
  let aInt := clampAdjustment (t.aInt - roundedShift e t.integral.toNat)
  { t with
    aInt := aInt
    aApp := clampAdjustment (aInt - roundedShift e t.proportional.toNat) }

/-- A pulse that corrects by a step, but for what every step does (R83). -/
def TimeBase.correctStep (t : TimeBase) (e : Int) : TimeBase :=
  { t with count := t.count - BitVec.ofInt 64 e, aApp := t.aInt }

/-- The effective step limit (R81, R89). -/
def TimeBase.effectiveStepLimit (t : TimeBase) : Nat := effective t.stepLimit.toNat

/-- An accepted pulse: supervision at 0, the error recorded, the correction, and TRACKING (R80 to R84). -/
def State.acceptPulse (s : State) : State :=
  let e := pulseError s.time.count
  let t := { s.time with supervision := some 0, lastError := e }
  let corrected :=
    if e.natAbs ≤ t.effectiveStepLimit then s.setTime (t.correctRate e)
    else (s.setTime (t.correctStep e)).makeStep
  corrected.enterTimeState .tracking

/-- The supervision timer holds a value below 500 (R80 case 2). -/
def TimeBase.guarding (t : TimeBase) : Bool := t.supervision.any fun v => decide (v < Config.pulseGuard)

/-- REFERENCE_PULSE (R80): ignored in UNSET, spurious, or accepted. -/
def execReferencePulse (s : State) : Host.Outcome State Fault Refusal :=
  if s.time.state = .unset then
    .next (s.countDevice fun c => { c with pulsesIgnored := satInc Config.max32 c.pulsesIgnored })
  else if s.time.guarding then
    .next (s.countDevice fun c => { c with spuriousPulses := satInc Config.max32 c.spuriousPulses })
  else .next s.acceptPulse

/-- The supervision timer has reached 1,500 in TRACKING (R84). -/
def TimeBase.holdoverDue (t : TimeBase) : Bool :=
  decide (t.state = .tracking) && decide (t.supervision = some Config.supervisionLimit)

/-- Entry to HOLDOVER, if the tick just taken makes it due (R84). -/
def State.holdoverEntry (s : State) : State :=
  if s.time.holdoverDue then (s.setTime { s.time with aApp := s.time.aInt }).enterTimeState .holdover else s

/-! ## Time requests (R86 to R90) -/

/-- The apply of SET-TIME: in UNSET the state becomes SET, else the write is a step (R87). -/
def applySetTime (v : Quad) (s : State) : State × Reply :=
  let s' := s.setTime { s.time with count := v, fraction := 0 }
  (if s.time.state = .unset then s'.enterTimeState .set else s'.makeStep, .done)

/-- The clamped offset of ADJUST-TIME (R88). -/
def clampedOffset (offset : Quad) : Int := clamp (-(Config.second : Int)) Config.second offset.toInt

/-- The apply of ADJUST-TIME (R88). -/
def applyAdjustTime (offset : Quad) (s : State) : State × Reply :=
  if s.time.state = .unset then (s, .mismatch .timeUnset)
  else
    ((s.setTime { s.time with count := s.time.count + BitVec.ofInt 64 (clampedOffset offset) }).makeStep,
      .done)

/-- The apply of WRITE-TIMING: the three settings together (R89). -/
def applyWriteTiming (image : TimingImage) (s : State) : State × Reply :=
  (s.setTime
    { s.time with
      stepLimit := image.stepLimit.setWidth 20
      integral := image.integral.setWidth 3
      proportional := image.proportional.setWidth 3 }, .done)

/-- SET_TIME (R87). -/
def execSetTime (v : Quad) (s : State) : Host.Outcome State Fault Refusal :=
  .next (State.settle (.setTime v) (applySetTime v s))

/-- ADJUST_TIME (R88). -/
def execAdjustTime (offset : Quad) (s : State) : Host.Outcome State Fault Refusal :=
  .next (State.settle (.adjustTime offset) (applyAdjustTime offset s))

/-- WRITE_TIMING (R89). -/
def execWriteTiming (image : TimingImage) (s : State) : Host.Outcome State Fault Refusal :=
  .next (State.settle (.writeTiming image) (guarded (.writeTiming image) (applyWriteTiming image) s))

/-- READ_TIME (R90). -/
def execReadTime (s : State) : Host.Outcome State Fault Refusal :=
  .next (State.settle .readTime (s, .read s.time.image))

end Sys2Proof.Machine
end

