-- ==== Sys2Proof/Machine/Probing.lean ====
section
/-! DEFINITION. The Probe Engine (chapter 6): probe timers and slots, the transmit arbiter, received frames,
the echo match, the sample and its filter, timeouts, the step signal, and the device requests. -/

namespace Sys2Proof.Machine

/-- A device counter of 32 bits counts one more (R119). -/
def countUp (n : Nat) : Nat := satInc Config.max32 n

/-! ## Expiry of a probe timer (R97, R98) -/

/-- The lowest-numbered FREE slot (R98). -/
def State.freeSlot (s : State) : Option SlotIndex :=
  (List.finRange 32).find? fun k => decide (s.probe.slots[k] = .free)

/-- Some occupied slot holds this path and sequence (R98 case 2, R100). -/
def State.slotHolds (s : State) (p : PathIndex) (q : Half) : Bool :=
  s.probe.slots.toList.any fun k => decide (k.key? = some (p, q))

/-- A probe timer's expiry is acted on by the first case that applies (R98). -/
def State.queueProbe (p : PathIndex) (s : State) : State :=
  let x := s.paths[p]
  let defer := s.countDevice fun c => { c with deferred := countUp c.deferred }
  if s.probe.terminalId = 0 || s.time.state = .unset then s
  else if s.slotHolds p x.nextSeq then defer
  else
    match s.freeSlot with
    | none => defer
    | some k => (s.setSlot k (.queued p x.nextSeq)).setPath p { x with nextSeq := x.nextSeq + 1 }

/-- A running probe timer has reached 0 (R97). -/
def Path.probeDue (x : Path) : Bool :=
  x.nonVacant && decide (x.config.interval ≠ 0) && decide (x.timer = some 0)

/-- The expiry of path `p`'s probe timer, if the tick just taken makes it due: reloaded, and acted on (R97,
R98). -/
def State.probeTimerExpiry (p : PathIndex) (s : State) : State :=
  if s.paths[p].probeDue then (s.reloadTimer p).queueProbe p else s

/-! ## The transmit arbiter (R102 to R104, R108) -/

/-- The lowest-numbered QUEUED slot (R102). -/
def State.queuedSlot (s : State) : Option SlotIndex :=
  (List.finRange 32).find? fun k => s.probe.slots[k].isQueued

/-- The frame of an own probe, built from the path record as it stands (R103, R183). -/
def State.probeFrame (s : State) (p : PathIndex) (q : Half) : List Byte :=
  let c := s.paths[p].config
  buildFrame probeKind s.probe.terminalId c.farId (c.port.setWidth 8) (BitVec.ofNat 8 p) q s.time.count 0 0

/-- The frame of an echo, built from its backlog entry (R108, R183). -/
def State.echoFrame (s : State) (e : EchoEntry) : List Byte :=
  buildFrame echoKind s.probe.terminalId e.origin e.port e.pathIndex e.seq e.t1 e.t2 s.time.count

/-- An own probe starts transmission from slot `k` (R103). -/
def State.sendProbe (k : SlotIndex) (p : PathIndex) (q : Half) (s : State) : State :=
  let x := s.paths[p]
  ((s.setProbe { s.probe with transmitter := some (s.probeFrame p q) }).setSlot k
    (.sent p q s.time.count x.config.effectiveEchoTimeout x.generation)).countDevice
      fun c => { c with probesSent := countUp c.probesSent }

/-- The oldest backlog entry is granted: sent, or discarded across a step with the transmitter left idle
(R108). -/
def State.sendEcho (e : EchoEntry) (rest : List EchoEntry) (s : State) : State :=
  if s.time.epoch ≠ s.probe.taken then
    (s.setProbe { s.probe with backlog := rest }).countDevice
      fun c => { c with stepDiscards := countUp c.stepDiscards }
  else
    (s.setProbe { s.probe with backlog := rest, transmitter := some (s.echoFrame e) }).countDevice
      fun c => { c with echoesSent := countUp c.echoesSent }

/-- The idle transmitter is granted to the oldest backlog entry, else to the lowest QUEUED slot (R102). -/
def State.transmitGrant (s : State) : State :=
  if s.probe.transmitter.isSome then s
  else
    match s.probe.backlog with
    | e :: rest => s.sendEcho e rest
    | [] =>
      match s.queuedSlot with
      | some k =>
        match s.probe.slots[k] with
        | .queued p q => s.sendProbe k p q
        | _ => s
      | none => s

/-- PROBE_TRANSMIT_GRANT (R102, R103, R108). -/
def execProbeTransmitGrant (s : State) : Host.Outcome State Fault Refusal := .next s.transmitGrant

/-- FRAME_TRANSMISSION_END (R104): the frame's last byte has passed to the link and the transmitter is idle.
The grant that may follow is an event of its own. -/
def execFrameTransmissionEnd (s : State) : Host.Outcome State Fault Refusal :=
  match s.probe.transmitter with
  | some frame => .next ((s.setProbe { s.probe with transmitter := none }).emit (.frame frame))
  | none => .next s

/-! ## The sample and its filter (R113 to R116) -/

/-- The corrected round trip RTT', a negative one taken as 0 (R113). The two inner differences wrap and are read
as signed numbers; their difference is formed exactly (log 32). -/
def roundTrip (t1 t2 t3 t4 : Quad) : Int := max 0 ((t4 - t1).toInt - (t3 - t2).toInt)

/-- The sample, in sixteenths of a nanosecond, clamped (R113). -/
def sample (rtt : Int) (asymmetry : Half) (rate : Nat) : Nat :=
  (clamp 0 Config.estimateMax
    (rtt * 8 + asymmetry.toInt * 16 - (serialization Config.probeFrameBytes rate : Int) * 16)).toNat

/-- A first sample, or a restart: the estimate starts from it (R114, R115). -/
def Path.startEstimate (x : Path) (v : Nat) : Path :=
  { x with estimate := v, status := .settling, accepted := 1, outlier := 0 }

/-- The sample departs from the estimate by more than the reject window (R115). -/
def Path.rejects (x : Path) (v : Nat) : Bool :=
  decide (x.config.rejectWindow ≠ 0) &&
    decide (x.config.rejectWindow.toNat * 16 < ((v : Int) - x.estimate).natAbs)

/-- A rejected sample; the fourth in a row restarts the estimate (R115). -/
def Path.rejectSample (x : Path) (v : Nat) : Path :=
  if Config.outlierLimit ≤ x.outlier + 1 then x.startEstimate v else { x with outlier := x.outlier + 1 }

/-- An accepted sample moves the estimate; the eighth makes it STEADY (R116). -/
def Path.acceptSample (x : Path) (v : Nat) : Path :=
  let d : Int := (v : Int) - x.estimate
  let accepted := min (x.accepted + 1) Config.steadyCount
  { x with
    estimate := (clamp 0 Config.estimateMax (x.estimate + roundedShift d x.config.shift.toNat)).toNat
    status := if x.status = .settling ∧ accepted = Config.steadyCount then .steady else x.status
    accepted := accepted
    outlier := 0 }

/-- A sample is filtered into the path's estimate (R114 to R116). -/
def Path.filter (x : Path) (v : Nat) : Path :=
  match x.status with
  | .none => x.startEstimate v
  | _ => if x.rejects v then x.rejectSample v else x.acceptSample v

/-! ## Received frames (R105, R106, R109, R110) -/

/-- The probe timer of a path whose LOST is cleared: cut to the normal interval if it holds more (R97). -/
def Path.cutTimer (x : Path) : Path :=
  { x with timer := x.timer.map fun v => min v x.config.interval.toNat }

/-- The path record after a matched echo with this sample, none for a dropped one (R110 steps 2, 4, 5). -/
def Path.matched (x : Path) (v : Option Nat) : Path :=
  let filtered := match v with
    | some v => x.filter v
    | none => x
  let counted := { filtered with loss := 0, lost := false }
  if x.lost then counted.cutTimer else counted

/-- An event of the Probe Engine changed LOST, the estimate status or E_p as used (R117). -/
def State.shows (s : State) (old new : Path) : Bool :=
  decide (old.lost ≠ new.lost) || decide (old.status ≠ new.status) ||
    decide (s.latencyUsed old ≠ s.latencyUsed new)

/-- An echo is matched to SENT slot `k` of path `p` (R110, R117). -/
def State.matchEcho (k : SlotIndex) (p : PathIndex) (t1 : Quad) (f : ReceivedFrame) (t4 : Quad)
    (s : State) : State :=
  let x := s.paths[p]
  let rate := s.minRate x.body
  let v := if rate = 0 then none else some (sample (roundTrip t1 f.t2 f.t3 t4) x.config.asymmetry rate)
  let x' := x.matched v
  (((s.setSlot k .free).setPath p x').countDevice fun c =>
    { c with
      echoesMatched := countUp c.echoesMatched
      unusableEchoes := if rate = 0 then countUp c.unusableEchoes else c.unusableEchoes }).triggerIf
    (s.shows x x') (.path p)

/-- The SENT slot that holds the frame's path index and sequence (R109). -/
def State.sentSlot (s : State) (f : ReceivedFrame) : Option SlotIndex :=
  (List.finRange 32).find? fun k =>
    match s.probe.slots[k] with
    | .sent p q _ _ _ => decide (p.val = f.pathIndex.toNat) && decide (q = f.seq)
    | _ => false

/-- A PROBE frame that passed R105 (R106). -/
def State.takeProbe (f : ReceivedFrame) (a : Arrival) (port : Byte) (s : State) : State :=
  if f.origin = s.probe.terminalId then s.countDevice fun c => { c with looped := countUp c.looped }
  else if s.time.state = .unset || s.probe.terminalId = 0 then
    s.countDevice fun c => { c with refused := countUp c.refused }
  else if a.epoch ≠ s.probe.taken then
    s.countDevice fun c => { c with stepDiscards := countUp c.stepDiscards }
  else if Config.backlogMax ≤ s.probe.backlog.length then
    s.countDevice fun c => { c with backlogDrops := countUp c.backlogDrops }
  else
    s.setProbe
      { s.probe with
        backlog := s.probe.backlog ++ [⟨f.origin, f.pathIndex, f.seq, f.t1, a.stamp, port⟩] }

/-- An ECHO frame that passed R105 (R109). -/
def State.takeEcho (f : ReceivedFrame) (a : Arrival) (s : State) : State :=
  if a.epoch ≠ s.probe.taken then
    s.countDevice fun c => { c with stepDiscards := countUp c.stepDiscards }
  else
    match s.sentSlot f with
    | some k =>
      match s.probe.slots[k] with
      | .sent p _ t1 _ _ => s.matchEcho k p t1 f a.stamp
      | _ => s
    | none => s.countDevice fun c => { c with unknownEchoes := countUp c.unknownEchoes }

/-- A complete frame is checked by the first case that applies and handed on (R105). -/
def State.takeFrame (bytes : List Byte) (port : Byte) (a : Arrival) (s : State) : State :=
  let f := parseFrame bytes
  if bytes.length ≠ Config.probeFrameBytes then
    s.countDevice fun c => { c with lengthErrors := countUp c.lengthErrors }
  else if halfwordSum bytes ≠ 0 || (f.kind ≠ probeKind && f.kind ≠ echoKind) then
    s.countDevice fun c => { c with checkErrors := countUp c.checkErrors }
  else if f.destination ≠ s.probe.terminalId then
    s.countDevice fun c => { c with misdirected := countUp c.misdirected }
  else if f.kind = probeKind then s.takeProbe f a port
  else s.takeEcho f a

/-- FRAME_FIRST_BYTE_ARRIVAL (R105): the stamp, and the step epoch read with it. -/
def execFrameFirstByteArrival (s : State) : Host.Outcome State Fault Refusal :=
  .next (s.setProbe { s.probe with receiving := some ⟨s.time.count, s.time.epoch⟩ })

/-- PROBE_FRAME_RECEIVED (R105, R106, R109, R110): the frame's last byte has arrived. A frame whose receipt
did not begin, or was abandoned by a reset, is not taken (R121, R122, log 15). -/
def execProbeFrameReceived (bytes : List Byte) (port : Byte) (s : State) :
    Host.Outcome State Fault Refusal :=
  match s.probe.receiving with
  | some a => .next ((s.setProbe { s.probe with receiving := none }).takeFrame bytes port a)
  | none => .next s

/-! ## Timeouts (R111) -/

/-- The loss of one probe judged against the path (R111). -/
def Path.countLoss (x : Path) : Path :=
  let loss := if x.loss < x.config.effectiveLossLimit then x.loss + 1 else x.loss
  { x with loss := loss, lost := x.lost || decide (x.config.effectiveLossLimit ≤ loss) }

/-- The echo timeout of slot `k`, if the tick just taken makes it due: the slot freed, the timeout counted, and the
loss judged unless the path was rewritten since the probe was sent (R111, R117). -/
def State.echoTimeout (k : SlotIndex) (s : State) : State :=
  match s.probe.slots[k] with
  | .sent p _ _ 0 generation =>
    let s' := (s.setSlot k .free).countDevice fun c => { c with timeouts := countUp c.timeouts }
    let x := s.paths[p]
    if x.generation = generation then
      (s'.setPath p x.countLoss).triggerIf (decide (x.lost ≠ x.countLoss.lost)) (.path p)
    else s'
  | _ => s

/-! ## The step signal (R118) -/

/-- STEP_SIGNAL_PROBE_ENGINE (R118): the oldest signal is taken. Nothing changes when none waits (log 3). -/
def execStepSignalProbeEngine (s : State) : Host.Outcome State Fault Refusal :=
  match s.probeSignals with
  | e :: rest =>
    .next (({ s with probeSignals := rest }.setProbe
      { s.probe with slots := Vector.replicate 32 .free, backlog := [], taken := e }).countDevice
        fun c => { c with stepDiscards := min (c.stepDiscards + s.probe.backlog.length) Config.max32 })
  | [] => .next s

/-! ## Device requests (R99, R120) -/

/-- The apply of WRITE-DEVICE: a changed terminal id frees every occupied slot (R99). -/
def applyWriteDevice (image : DeviceImage) (s : State) : State × Reply :=
  let s' := if image.terminalId ≠ s.probe.terminalId then s.freeSlots (fun _ => true) else s
  (s'.setProbe { s'.probe with terminalId := image.terminalId, lead := image.lead.setWidth 12 }, .done)

/-- The apply of READ-DEVICE; the zero option sets the seventeen counters to 0 (R120). -/
def applyReadDevice (zero : Bool) (s : State) : State × Reply :=
  (if zero then s.countDevice fun _ => .zero else s, .read s.probe.image)

/-- WRITE_DEVICE (R99). -/
def execWriteDevice (image : DeviceImage) (s : State) : Host.Outcome State Fault Refusal :=
  .next (State.settle (.writeDevice image) (guarded (.writeDevice image) (applyWriteDevice image) s))

/-- READ_DEVICE (R120). -/
def execReadDevice (zero : Bool) (s : State) : Host.Outcome State Fault Refusal :=
  .next (State.settle (.readDevice zero) (applyReadDevice zero s))

end Sys2Proof.Machine
end

