-- ==== Sys2Proof/Machine/Reset.lean ====
section
/-! DEFINITION. Power-on reset and warm reset (00_scope.md, "Reset kinds"), each one event over the whole
part, from each block's own reset rule. -/

namespace Sys2Proof.Machine

/-- A line after either reset: the frame-select wire keeps its level (R2). -/
def Line.afterReset (x : Line) : Line := Line.initial x.frameSelect

/-- Power-on reset: the initial contents of every block (R2, R12, R42, R54, R74, R94, R121, R141, R161,
R181). What is not the part's to reset stays: the waiting commands, what was driven to the partners, the
levels of the frame-select wires, and the numbering of reads (log 9). Signals, triggers and ticks on their way are
dropped (log 10). -/
def State.powerOn (s : State) : State :=
  { State.reset with
    pending := s.pending
    lines := s.lines.map Line.afterReset
    chan := { Channel.initial with nextTag := s.chan.nextTag }
    sent := s.sent }

/-- POWER_ON_RESET (R42). -/
def execPowerOnReset (s : State) : Host.Outcome State Fault Refusal := .next s.powerOn

/-- An in-service hop after warm reset (R43); a VACANT one stays as it is. -/
def Hop.warm (h : Hop) : Hop :=
  if h.inService then
    { h with
      state := .down
      bad := h.config.effectiveBadLimit
      clearHold := none
      silence := 0
      profile := 0
      margin := 0
      errors := 0
      attention := true }
  else h

/-- The Time Base after warm reset (R95). -/
def TimeBase.warm (t : TimeBase) : TimeBase :=
  { TimeBase.initial with
    aInt := t.aInt
    aApp := t.aInt
    stepLimit := t.stepLimit
    integral := t.integral
    proportional := t.proportional
    epoch := t.epoch + 1 }

/-- The Probe Engine after warm reset, with the taken epoch at the Time Base's epoch after its own (R122). -/
def ProbeEngine.warm (p : ProbeEngine) (epoch : Epoch) : ProbeEngine :=
  { ProbeEngine.initial with terminalId := p.terminalId, lead := p.lead, taken := epoch }

/-- The endpoint settings: a hot reset clears them, the WRST pin keeps them (R181). -/
def Channel.warm (c : Channel) (source : WarmSource) : Channel :=
  match source with
  | .pin =>
    { Channel.initial with
      nextTag := c.nextTag
      busMaster := c.busMaster
      messages := c.messages
      masks := c.masks }
  | .hotReset => { Channel.initial with nextTag := c.nextTag }

/-- A non-vacant path after warm reset, its probe timer to be reloaded (R74). -/
def Path.warm (x : Path) : Path := if x.nonVacant then { x with loss := 0, lost := false } else x

/-- A route after warm reset: contexts invalid, recomputed against the state the other blocks' reset left,
attention set (R142). -/
def State.warmRoute (s : State) (r : Route) : Route :=
  if r.nonVacant then { s.recomputed r.invalidate with attention := true } else r

/-- Warm reset of every block but the Path Table's timers and the Route Table (R2, R12, R43, R54, R74, R95,
R122, R161, R181). Signals and triggers on their way are dropped (log 10), and so are ticks delivered and not yet
taken: the first tick after the reset is taken 125,000 periods later (R75, log 10). -/
def State.warmBlocks (source : WarmSource) (s : State) : State :=
  { s with
    lines := s.lines.map Line.afterReset
    arbiter := 0
    hops := s.hops.map Hop.warm
    paths := s.paths.map Path.warm
    time := s.time.warm
    ticks := .none
    probeSignals := []
    routeSignals := []
    probe := s.probe.warm (s.time.epoch + 1)
    service := 0
    routeTaken := s.time.epoch + 1
    triggers := []
    steering := .initial
    chan := s.chan.warm source
    reply := .empty }

/-- The probe timers are reloaded for the paths as they stand, VACANT ones left as they are (R74, R97). -/
def State.warmTimers (s : State) : State :=
  { s with
    paths := tabulate 128 fun p =>
      if s.paths[p].nonVacant then { s.paths[p] with timer := s.fullInterval p } else s.paths[p] }

/-- The Route Table's part of a warm reset: every non-vacant route recomputed, and the attention count set
to the number of flags set, with no interrupt (R135, R142). -/
def State.warmRoutes (s : State) : State :=
  let s' := { s with routes := s.routes.map s.warmRoute }
  { s' with attentionCount := s'.flagsSet }

/-- Warm reset (R43). -/
def State.warm (source : WarmSource) (s : State) : State := (s.warmBlocks source).warmTimers.warmRoutes

/-- WARM_RESET (R43). -/
def execWarmReset (source : WarmSource) (s : State) : Host.Outcome State Fault Refusal :=
  .next (s.warm source)

end Sys2Proof.Machine
end

