-- ==== Sys2Proof/Machine/Steering.lean ====
section
/-! DEFINITION. The Steering Port (chapter 8): accepting a lookup, its computation, and the answer words. -/

namespace Sys2Proof.Machine

/-! ## Accepting a lookup (R143 to R145) -/

/-- The port drives ready: the lookup queue holds fewer than 16 entries (R143). -/
def SteeringPort.ready (p : SteeringPort) : Bool := decide (p.queue.length < Config.lookupQueueMax)

/-- The queue entry of a request whose second word is taken now (R143, R144, R184). -/
def State.lookup (s : State) (first second : Word) : Lookup where
  tag := requestTag first
  site := requestSite first
  cls := requestClass first
  length := requestLength second
  stamp := s.time.count
  timeValid := decide (s.time.state ≠ .unset)
  epoch := s.time.epoch

/-- STEERING_REQUEST_WORD (R143): with ready active the word is taken; the second word accepts the lookup.
Without ready the word is not taken, and the part keeps nothing of the offer: the sender that waits for
ready commands the word again (log 33). -/
def execSteeringRequestWord (w : Word) (s : State) : Host.Outcome State Fault Refusal :=
  if s.steering.ready then
    match s.steering.request with
    | none => .next (s.setSteering { s.steering with request := some w })
    | some first =>
      .next (s.setSteering
        { s.steering with request := none, queue := s.steering.queue ++ [s.lookup first w] })
  else .next s

/-! ## The choice (R149 to R155) -/

/-- A lookup is time-valid at its computation (R149). -/
def State.timeValid (s : State) (q : Lookup) : Bool := q.timeValid && decide (q.epoch = s.time.epoch)

/-- A_last of a route's context for a class as the Route Table gives it: none where it is invalid or where a
step signal is not yet taken (R133, R151). -/
def State.contextAsRead (s : State) (r : Route) (c : ClassIndex) : Option Quad :=
  if r.contexts[c].valid && decide (s.routeTaken = s.time.epoch) then some r.contexts[c].last else none

/-- A contender with its unbounded arrival U and its bounded arrival A, 64-bit unsigned (R151). -/
structure Offer where
  contender : Contender
  unbounded : Quad
  bounded : Quad
  deriving DecidableEq, Repr

/-- The hold of an offer, A − U (R151). -/
def Offer.hold (o : Offer) : Quad := o.bounded - o.unbounded

/-- The earliest departure T0 of a lookup (R151). -/
def State.earliest (s : State) (q : Lookup) : Quad := q.stamp + s.probe.lead.setWidth 64

/-- The bound A_last + g where ordering applies: the class has it on and the context is valid as read
(R151). -/
def State.bound (s : State) (r : Route) (c : ClassIndex) : Option Quad :=
  if s.classes[c].ordering then
    (s.contextAsRead r c).map fun last => last + s.classes[c].gap.setWidth 64
  else none

/-- The offer of a contender, from T0 and the bound (R151). -/
def offer (t0 : Quad) (bound : Option Quad) (c : Contender) : Offer :=
  let u := t0 + BitVec.ofNat 64 c.latency
  { contender := c
    unbounded := u
    bounded := match bound with
      | some b => if u < b then b else u
      | none => u }

/-- `a` beats `b` by a smaller bounded arrival, or by a smaller hold on the same arrival (R152). -/
def Offer.beats (a b : Offer) : Bool :=
  decide (a.bounded < b.bounded) || (decide (a.bounded = b.bounded) && decide (a.hold < b.hold))

/-- `a` beats `b` by a smaller unbounded arrival (R153). -/
def Offer.earlier (a b : Offer) : Bool := decide (a.unbounded < b.unbounded)

/-- What a time-valid choice settles on: path, fallback or not, departure, arrival, hold, waived or not. -/
structure Verdict where
  contender : Contender
  departure : Quad
  arrival : Quad
  hold : Quad
  waived : Bool
  deriving DecidableEq, Repr

/-- The choice among offers (R152), remade without the bound where its hold exceeds the maximum (R153). -/
def chooseOffer (t0 : Quad) (maxHold : Nat) (offers : List Offer) : Option Verdict :=
  match firstBest Offer.beats offers with
  | none => none
  | some o =>
    if o.hold.toNat ≤ maxHold then some ⟨o.contender, t0 + o.hold, o.bounded, o.hold, false⟩
    else (firstBest Offer.earlier offers).map fun w => ⟨w.contender, t0, w.unbounded, 0, true⟩

/-- The verdict on a lookup whose contenders are `cs`: by arrival where it is time-valid (R151 to R153), by
least latency with all times 0 where it is not (R155). -/
def State.verdict (s : State) (r : Route) (q : Lookup) (cs : List Contender) : Option Verdict :=
  if s.timeValid q then
    chooseOffer (s.earliest q) s.classes[q.cls].maxHold.toNat
      (cs.map (offer (s.earliest q) (s.bound r q.cls)))
  else (fastest cs).map fun c => ⟨c, 0, 0, 0, false⟩

/-! ## The answer and its effects (R148, R154, R156, R157) -/

/-- An answer that names no path (R148, R150). -/
def Answer.empty (tag : Byte) (code : AnswerCode) (timeInvalid : Bool) : Answer :=
  ⟨tag, code, timeInvalid, false, false, false, 0, 0, 0, 0, 0⟩

/-- The OK answer of a verdict (R156). -/
def State.okAnswer (s : State) (q : Lookup) (v : Verdict) : Answer where
  tag := q.tag
  code := .ok
  timeInvalid := !s.timeValid q
  orderWaived := v.waived
  fallbackUsed := v.contender.fallback
  held := decide (v.hold ≠ 0)
  path := v.contender.path
  port := s.paths[v.contender.path].config.port
  departure := v.departure
  arrival := v.arrival
  hold := v.hold

/-- The context after an answer with predicted arrival `a`, from the context as read (R154). -/
def updatedContext (read : Option Quad) (a : Quad) : Context :=
  match read with
  | some last => ⟨true, if last < a then a else last⟩
  | none => ⟨true, a⟩

/-- A route counter of 32 bits counts one more (R134). -/
def countAnswer (n : Nat) : Nat := satInc Config.max32 n

/-- The counters after an OK answer (R157). -/
def RouteCounters.countOk (c : RouteCounters) (v : Verdict) : RouteCounters :=
  { c with
    ok := countAnswer c.ok
    fallback := if v.contender.fallback then countAnswer c.fallback else c.fallback
    waived := if v.waived then countAnswer c.waived else c.waived }

/-- The route record after an OK answer: counters, and the context where the lookup is time-valid and its
class has ordering on (R154, R157). -/
def State.afterOk (s : State) (r : Route) (q : Lookup) (v : Verdict) : Route :=
  { r with
    counters := r.counters.countOk v
    contexts :=
      if s.timeValid q && s.classes[q.cls].ordering then
        r.contexts.set q.cls (updatedContext (s.contextAsRead r q.cls) v.arrival)
      else r.contexts }

/-- The answer of a lookup and the route record after it (R147 to R157). -/
def State.compute (s : State) (q : Lookup) : Answer × Route :=
  let r := s.routes[q.site]
  let late := !s.timeValid q
  if !r.nonVacant then (.empty q.tag .noRoute late, r)
  else
    match s.verdict r q (s.contenders r q.cls q.length.toNat) with
    | some v => (s.okAnswer q v, s.afterOk r q v)
    | none =>
      (.empty q.tag .noPath late,
        { r with counters := { r.counters with noPath := countAnswer r.counters.noPath } })

/-- LOOKUP_COMPUTATION (R146, R147): the head entry, with the answer stage empty. Nothing changes while the
stage is full or the queue empty (log 3). -/
def execLookupComputation (s : State) : Host.Outcome State Fault Refusal :=
  match s.steering.answer, s.steering.queue with
  | none, q :: rest =>
    let out := s.compute q
    .next ((s.setRoute q.site out.2).setSteering
      { s.steering with queue := rest, answer := some ⟨out.1, 0⟩ })
  | _, _ => .next s

/-- ANSWER_WORD_TAKEN (R146): the next word is taken; the sixth empties the stage. -/
def execAnswerWordTaken (s : State) : Host.Outcome State Fault Refusal :=
  match s.steering.answer with
  | some a =>
    .next ((s.setSteering
      { s.steering with
        answer := if Config.answerWords ≤ a.taken + 1 then none else some { a with taken := a.taken + 1 } }).emit
      (.answerWord (a.answer.word a.taken)))
  | none => .next s

end Sys2Proof.Machine
end

