-- ==== Sys2Proof/Machine/Tick.lean ====
section
/-! DEFINITION. The millisecond tick (R75), taken at each place as an event of its own, with the expiries it
reaches made in that event (R26 to R30, R80, R84, R97, R98, R111, R169), and the rows that name an expiry. -/

namespace Sys2Proof.Machine

/-! ## What a tick moves, before any expiry -/

/-- Hop record `i` takes a tick: the outage accumulator and the timers advance (R30). -/
def State.advanceHop (i : HopIndex) (s : State) : State :=
  s.setHop i (s.hops[i].advance (s.held i) (s.lineRunning s.hops[i].config.line))

/-- The supervision timer takes a tick: it adds 1 and stays at 1,500 (R80). -/
def State.advanceSupervision (s : State) : State :=
  s.setTime { s.time with supervision := s.time.supervision.map (satInc Config.supervisionLimit) }

/-- A slot with the echo timeout remaining of a SENT probe decreased by 1 (R111). -/
def Slot.tick : Slot → Slot
  | .sent p q t1 remaining generation => .sent p q t1 (remaining - 1) generation
  | k => k

/-- Probe slot `k` takes a tick (R111). -/
def State.advanceSlot (k : SlotIndex) (s : State) : State := s.setSlot k s.probe.slots[k].tick

/-- The probe timer of path `p` takes a tick, if it runs (R97). -/
def State.advancePath (p : PathIndex) (s : State) : State :=
  s.setPath p { s.paths[p] with timer := s.paths[p].timer.map (· - 1) }

/-- An outstanding bus-master read has waited one tick more (R169). -/
def Work.tick : Work → Work
  | .fetching tag address ticks skipped => .fetching tag address (ticks + 1) skipped
  | .reading tag b ticks => .reading tag b (ticks + 1)
  | w => w

/-- The channel takes a tick (R169). -/
def State.advanceChannel (s : State) : State := s.setChan { s.chan with work := s.chan.work.tick }

/-! ## The tick at one place -/

/-- The tick at a place: what counts there moves, and the expiries it reaches are made in the same event. At a
hop the clear-hold expiry is made first; either order ends the same (R30, log 26). -/
def State.takeTick (x : TickPlace) (s : State) : State :=
  match x with
  | .hop i => ((s.advanceHop i).clearHoldExpiry i).silenceExpiry i
  | .supervision => s.advanceSupervision.holdoverEntry
  | .slot k => (s.advanceSlot k).echoTimeout k
  | .path p => (s.advancePath p).probeTimerExpiry p
  | .channel => s.advanceChannel.readTimeout

/-- A place takes a tick that was delivered to it; with none delivered there is no tick to take (R75, log 11). -/
def State.tick (x : TickPlace) (s : State) : State :=
  if s.ticks.owed x = 0 then s else (s.setTicks (s.ticks.take x)).takeTick x

/-- MILLISECOND_TICK (R75, R30): the tick is taken at one place (log 12). -/
def execMillisecondTick (x : TickPlace) (s : State) : Host.Outcome State Fault Refusal := .next (s.tick x)

/-! ## The rows that name an expiry: the tick that reaches it (log 13) -/

/-- The next tick at hop `i` reaches the clear-hold expiry (R26). -/
def State.reachesClearHold (i : HopIndex) (s : State) : Bool := (s.advanceHop i).hops[i].clearHoldDue (s.held i)

/-- The next tick at hop `i` reaches the silence expiry (R28). -/
def State.reachesSilence (i : HopIndex) (s : State) : Bool :=
  (s.advanceHop i).hops[i].silenceDue (s.held i) (s.lineRunning s.hops[i].config.line)

/-- The next tick at probe slot `k` ends its echo timeout (R111). -/
def Slot.reachesTimeout (k : Slot) : Bool :=
  match k with
  | .sent _ _ _ remaining _ => decide (remaining ≤ 1)
  | _ => false

/-- The next tick at the channel is the last an outstanding read waits for (R169). -/
def Work.reachesTimeout (w : Work) : Bool :=
  match w with
  | .fetching _ _ ticks _ => decide (Config.readTimeout ≤ ticks + 1)
  | .reading _ _ ticks => decide (Config.readTimeout ≤ ticks + 1)
  | _ => false

/-- CLEAR_HOLD_EXPIRY (R26): the tick at the hop, where it reaches the clear-hold expiry (log 13). -/
def execClearHoldExpiry (h : HopIndex) (s : State) : Host.Outcome State Fault Refusal :=
  .next (if s.reachesClearHold h then s.tick (.hop h) else s)

/-- SILENCE_EXPIRY (R28): the tick at the hop, where it reaches the silence expiry (log 13). -/
def execSilenceExpiry (h : HopIndex) (s : State) : Host.Outcome State Fault Refusal :=
  .next (if s.reachesSilence h then s.tick (.hop h) else s)

/-- HOLDOVER_ENTRY (R84): the tick that brings the supervision timer to 1,500 in TRACKING (log 13). -/
def execHoldoverEntry (s : State) : Host.Outcome State Fault Refusal :=
  .next (if s.advanceSupervision.time.holdoverDue then s.tick .supervision else s)

/-- PROBE_TIMER_EXPIRY (R98): the tick after which the path's probe timer holds 0 (log 13). -/
def execProbeTimerExpiry (p : PathIndex) (s : State) : Host.Outcome State Fault Refusal :=
  .next (if (s.advancePath p).paths[p].probeDue then s.tick (.path p) else s)

/-- ECHO_TIMEOUT (R111): the tick after which the slot's echo timeout remaining is 0 (log 13). -/
def execEchoTimeout (k : SlotIndex) (s : State) : Host.Outcome State Fault Refusal :=
  .next (if s.probe.slots[k].reachesTimeout then s.tick (.slot k) else s)

/-- BUS_MASTER_READ_TIMEOUT (R169): the 50th tick an outstanding read waits (log 13, log 28). -/
def execBusMasterReadTimeout (s : State) : Host.Outcome State Fault Refusal :=
  .next (if s.chan.work.reachesTimeout then s.tick .channel else s)

end Sys2Proof.Machine
end

