-- ==== Sys2Proof/Machine/Dispatch.lean ====
section
/-! DEFINITION. One arm per command: the effect of a command on everything but the queue. -/

namespace Sys2Proof.Machine

def exec (i : Instr) (s : State) : Host.Outcome State Fault Refusal :=
  match i with
  | .powerOnReset => Sys2Proof.Machine.execPowerOnReset s
  | .warmReset source => Sys2Proof.Machine.execWarmReset source s
  | .reportFrameBegin l => Sys2Proof.Machine.execReportFrameBegin l s
  | .reportFrameEnd l => Sys2Proof.Machine.execReportFrameEnd l s
  | .lineTurn => Sys2Proof.Machine.execLineTurn s
  | .maintenanceTurn => Sys2Proof.Machine.execMaintenanceTurn s
  | .run l => Sys2Proof.Machine.execRun l s
  | .suspend l => Sys2Proof.Machine.execSuspend l s
  | .stop l => Sys2Proof.Machine.execStop l s
  | .readLine l zero => Sys2Proof.Machine.execReadLine l zero s
  | .millisecondTick place => Sys2Proof.Machine.execMillisecondTick place s
  | .clearHoldExpiry h => Sys2Proof.Machine.execClearHoldExpiry h s
  | .silenceExpiry h => Sys2Proof.Machine.execSilenceExpiry h s
  | .readHop h => Sys2Proof.Machine.execReadHop h s
  | .writeHop h image => Sys2Proof.Machine.execWriteHop h image s
  | .retireHop h => Sys2Proof.Machine.execRetireHop h s
  | .clearHopCounts h => Sys2Proof.Machine.execClearHopCounts h s
  | .placeHold k map => Sys2Proof.Machine.execPlaceHold k map s
  | .releaseHold k => Sys2Proof.Machine.execReleaseHold k s
  | .readHolds => Sys2Proof.Machine.execReadHolds s
  | .writeProfiles entries => Sys2Proof.Machine.execWriteProfiles entries s
  | .readProfiles => Sys2Proof.Machine.execReadProfiles s
  | .writePath p image => Sys2Proof.Machine.execWritePath p image s
  | .retirePath p => Sys2Proof.Machine.execRetirePath p s
  | .restartEstimate p => Sys2Proof.Machine.execRestartEstimate p s
  | .readPath p => Sys2Proof.Machine.execReadPath p s
  | .referencePulse => Sys2Proof.Machine.execReferencePulse s
  | .holdoverEntry => Sys2Proof.Machine.execHoldoverEntry s
  | .setTime v => Sys2Proof.Machine.execSetTime v s
  | .adjustTime offset => Sys2Proof.Machine.execAdjustTime offset s
  | .writeTiming image => Sys2Proof.Machine.execWriteTiming image s
  | .readTime => Sys2Proof.Machine.execReadTime s
  | .stepSignalProbeEngine => Sys2Proof.Machine.execStepSignalProbeEngine s
  | .stepSignalRouteTable => Sys2Proof.Machine.execStepSignalRouteTable s
  | .probeTimerExpiry p => Sys2Proof.Machine.execProbeTimerExpiry p s
  | .probeTransmitGrant => Sys2Proof.Machine.execProbeTransmitGrant s
  | .frameTransmissionEnd => Sys2Proof.Machine.execFrameTransmissionEnd s
  | .probeFrameReceived bytes port => Sys2Proof.Machine.execProbeFrameReceived bytes port s
  | .echoTimeout k => Sys2Proof.Machine.execEchoTimeout k s
  | .writeDevice image => Sys2Proof.Machine.execWriteDevice image s
  | .readDevice zero => Sys2Proof.Machine.execReadDevice zero s
  | .reRankTrigger t => Sys2Proof.Machine.execReRankTrigger t s
  | .recomputation => Sys2Proof.Machine.execRecomputation s
  | .writeClass c image => Sys2Proof.Machine.execWriteClass c image s
  | .readClass c => Sys2Proof.Machine.execReadClass c s
  | .collect => Sys2Proof.Machine.execCollect s
  | .writeRoute r image => Sys2Proof.Machine.execWriteRoute r image s
  | .retireRoute r => Sys2Proof.Machine.execRetireRoute r s
  | .readRoute r => Sys2Proof.Machine.execReadRoute r s
  | .steeringRequestWord w => Sys2Proof.Machine.execSteeringRequestWord w s
  | .lookupComputation => Sys2Proof.Machine.execLookupComputation s
  | .answerWordTaken => Sys2Proof.Machine.execAnswerWordTaken s
  | .start => Sys2Proof.Machine.execStart s
  | .halt => Sys2Proof.Machine.execHalt s
  | .ack => Sys2Proof.Machine.execAck s
  | .channelClear => Sys2Proof.Machine.execChannelClear s
  | .windowWrite offset size value => Sys2Proof.Machine.execWindowWrite offset size value s
  | .configurationWrite setting => Sys2Proof.Machine.execConfigurationWrite setting s
  | .blockFetchComplete tag block => Sys2Proof.Machine.execBlockFetchComplete tag block s
  | .dataReadComplete tag data => Sys2Proof.Machine.execDataReadComplete tag data s
  | .skippedBlockFetchComplete tag block => Sys2Proof.Machine.execSkippedBlockFetchComplete tag block s
  | .busMasterReadTimeout => Sys2Proof.Machine.execBusMasterReadTimeout s
  | .jump target => Sys2Proof.Machine.execJump target s
  | .interruptMessage v => Sys2Proof.Machine.execInterruptMessage v s
  | .oscillatorPeriod => Sys2Proof.Machine.execOscillatorPeriod s
  | .reportClockEdge l bit => Sys2Proof.Machine.execReportClockEdge l bit s
  | .frameFirstByteArrival => Sys2Proof.Machine.execFrameFirstByteArrival s
  | .imageWriteIssued bytes => Sys2Proof.Machine.execImageWriteIssued bytes s

end Sys2Proof.Machine
end

