-- ==== Sys2Proof/Safety.lean ====
section
/-! DEFINITION. What a sound state of the part is, block by block: the relations the spec says always hold.
Statements that every step keeps them are made of these. -/

namespace Sys2Proof.Machine

/-! ## Attention (R135) -/

/-- The attention count is the number of hop and route records whose attention flag is set (R135). -/
def State.attentionSound (s : State) : Prop := s.attentionCount = s.flagsSet

/-! ## Hop records (R21, R26, R27, R31, R48) -/

/-- The bad counter equals the effective bad limit in FADED and DOWN, is below it in CLEAR and FADING, and
is 0 in VACANT (R31). -/
def Hop.counterSound (h : Hop) : Prop :=
  match h.state with
  | .vacant => h.bad = 0
  | .clear | .fading => h.bad < h.config.effectiveBadLimit
  | .faded | .down => h.bad = h.config.effectiveBadLimit

/-- The clear-hold timer runs in FADING and FADED alone and never on a held hop; the silence timer is 0 in
VACANT and DOWN and on a held hop (R21, R26, R27, R48). -/
def Hop.timersSound (h : Hop) (held : Bool) : Prop :=
  (h.clearHold.isSome → held = false ∧ (h.state = .fading ∨ h.state = .faded)) ∧
    (held = true ∨ h.state = .vacant ∨ h.state = .down → h.silence = 0)

/-- Every hop record is sound. -/
def State.hopsSound (s : State) : Prop :=
  ∀ i : HopIndex, s.hops[i].counterSound ∧ s.hops[i].timersSound (s.held i)

/-! ## Hold levels (R44) -/

/-- The placed hold levels are levels 0 to k for some k, or none (R44). -/
def State.holdsSound (s : State) : Prop :=
  ∀ j k : LevelIndex, j ≤ k → s.holds[k].isSome → s.holds[j].isSome

/-! ## Path records (R56, R57, R97, R116) -/

/-- The part a record's kind decides: a hop list of 1 to 12 in-service hops, none twice, or a fibre rate of
at least 1 (R56). -/
def State.bodySound (s : State) : PathBody → Prop
  | .vacant => True
  | .microwave hops =>
    1 ≤ hops.length ∧ hops.length ≤ 12 ∧ hops.Nodup ∧ ∀ h ∈ hops, s.hops[h].state ≠ .vacant
  | .fibre _ rate => rate ≠ 0

/-- The ranges of a path's dynamic fields (R57, R116), and its probe timer: running exactly while the path is
non-vacant with a probe interval, 1 to 8,000 ms (R97). -/
def Path.rangesSound (x : Path) : Prop :=
  x.estimate ≤ Config.estimateMax ∧ x.accepted ≤ Config.steadyCount ∧ x.outlier ≤ Config.outlierLimit ∧
    x.loss ≤ x.config.effectiveLossLimit ∧ x.config.interval.toNat ≤ Config.intervalMax ∧
    (x.timer.isSome ↔ x.body ≠ .vacant ∧ x.config.interval ≠ 0) ∧
    ∀ v, x.timer = some v → 1 ≤ v ∧ v ≤ Config.slowIntervalMax

/-- Every path record is sound. -/
def State.pathsSound (s : State) : Prop :=
  ∀ p : PathIndex, s.bodySound s.paths[p].body ∧ s.paths[p].rangesSound

/-! ## Probe slots (R100) -/

/-- Every occupied slot names a non-vacant path, no two occupied slots hold the same path and sequence, and a
SENT slot has at least 1 ms of its echo timeout remaining (R100). -/
def State.slotsSound (s : State) : Prop :=
  (∀ k : SlotIndex, ∀ p, s.probe.slots[k].path? = some p → s.paths[p].body ≠ .vacant) ∧
    (∀ j k : SlotIndex, j ≠ k → s.probe.slots[j].key?.isSome →
      s.probe.slots[j].key? ≠ s.probe.slots[k].key?) ∧
    ∀ (k : SlotIndex) p q t1 remaining generation,
      s.probe.slots[k] = .sent p q t1 remaining generation → 1 ≤ remaining

/-! ## Routes (R124, R125, R131) -/

/-- The references of a route: at most 8 candidates, none twice, each a MICROWAVE path; the fallback a FIBRE
path (R124). -/
def State.referencesSound (s : State) (r : Route) : Prop :=
  r.candidates.length ≤ 8 ∧ r.candidates.Nodup ∧ (∀ p ∈ r.candidates, s.paths[p].isMicrowave) ∧
    ∀ p, r.fallback = some p → s.paths[p].isFibre

/-- A route's state matches its choice, and a VACANT record has every field but its generation clear (R125,
R131). -/
def Route.choiceSound (r : Route) : Prop :=
  match r.state with
  | .vacant => r = Route.vacant r.generation
  | .normal => ∃ p ∈ r.candidates, r.choice = some p
  | .fallback => ∃ p, r.fallback = some p ∧ r.choice = some p
  | .dark => r.choice = none

/-- Every route record is sound. -/
def State.routesSound (s : State) : Prop :=
  ∀ i : RouteIndex, s.referencesSound s.routes[i] ∧ s.routes[i].choiceSound

/-! ## Time Base (R75 to R80) -/

/-- The pulse supervision timer goes with the state: absent in UNSET and SET, below 1,500 in TRACKING, which the
tick that reaches 1,500 leaves, and held at 1,500 in HOLDOVER (R79, R80, R84). -/
def TimeBase.supervisionSound (t : TimeBase) : Prop :=
  match t.state with
  | .unset | .set => t.supervision = none
  | .tracking => ∃ v, t.supervision = some v ∧ v < Config.supervisionLimit
  | .holdover => t.supervision = some Config.supervisionLimit

/-- The ranges of the Time Base (R75, R76, R77, R89). -/
def TimeBase.sound (t : TimeBase) : Prop :=
  0 ≤ t.fraction ∧ t.fraction < Config.attosPerNano ∧
    -Config.adjustmentLimit ≤ t.aInt ∧ t.aInt ≤ Config.adjustmentLimit ∧
    -Config.adjustmentLimit ≤ t.aApp ∧ t.aApp ≤ Config.adjustmentLimit ∧
    t.stepLimit.toNat ≤ Config.stepLimitMax ∧ t.periods < Config.periodsPerTick ∧ t.supervisionSound

/-! ## Queues (R107, R145, R146) -/

/-- The echo backlog holds at most 8 entries, the lookup queue at most 16, and the answer stage an answer of
which at most five words are taken (R107, R145, R146). -/
def State.queuesSound (s : State) : Prop :=
  s.probe.backlog.length ≤ Config.backlogMax ∧ s.steering.queue.length ≤ Config.lookupQueueMax ∧
    ∀ a, s.steering.answer = some a → a.taken < Config.answerWords

/-! ## Maintenance Channel (9.2, R172, R180) -/

/-- The work is a skipped block's fetch, or none. -/
def Work.isSkipOrIdle : Work → Bool
  | .idle => true
  | .fetching _ _ _ skipped => skipped
  | _ => false

/-- The ticks an outstanding bus-master read has waited (R169). -/
def Work.waited : Work → Nat
  | .fetching _ _ ticks _ | .reading _ _ ticks => ticks
  | _ => 0

/-- A block is in execution, or a skipped one is fetched, exactly in RUNNING and HALTING; a list executes at
most 1,024 blocks; the end kind reads NONE until the list has ended; an outstanding read has waited less than
50 ticks (9.2, R169, R172, R180). -/
def Channel.sound (c : Channel) : Prop :=
  (c.work ≠ .idle ↔ c.state = .running ∨ c.state = .halting) ∧
    c.record.executed ≤ Config.listLengthMax ∧
    (c.work.isSkipOrIdle = false → c.record.executed < Config.listLengthMax) ∧
    (c.state = .running ∨ c.state = .halting → c.record.endKind = .none) ∧
    (c.state = .ended → c.record.endKind ≠ .none) ∧ c.work.waited < Config.readTimeout

/-! ## Sums of a frame's bytes (R9) -/

/-- The sum of the eight bytes of a frame (R9). -/
def frameByteSum (f : BitVec 64) : Nat := ((List.range 8).map fun i => (f.extractLsb' (8 * i) 8).toNat).sum

/-! ## Requests and their answers (R171, R176) -/

/-- The block in execution waits for the apply of exactly this request (R176). -/
def State.waitsFor (s : State) (c : Instr) : Prop := ∃ b, s.chan.work = .applying b c

/-- The command completes: the next state is `t` with the answer `r` kept (log 4, log 6). Where the block in
execution waits for this very request, the list engine takes the answer to that block in the same event
(R176). -/
def Applies (c : Instr) (s t : State) (r : Reply) : Prop :=
  ∃ u, exec c s = .next u ∧ (¬ s.waitsFor c → u = { t with reply := r }) ∧
    ∀ b, s.chan.work = .applying b c → u = State.finishApply b r { t with reply := r }

/-- A request of the catalogue that is applied at its owning block directly, not at the hop update arbiter
(R14, R176). -/
def directRequest : Instr → Bool
  | .run _ | .suspend _ | .stop _ | .readLine _ _ | .placeHold _ _ | .releaseHold _ | .readHolds
  | .writeProfiles _ | .readProfiles | .writePath _ _ | .retirePath _ | .restartEstimate _ | .readPath _
  | .setTime _ | .adjustTime _ | .writeTiming _ | .readTime | .writeDevice _ | .readDevice _
  | .writeClass _ _ | .readClass _ | .collect | .writeRoute _ _ | .retireRoute _ | .readRoute _
  | .jump _ => true
  | _ => false

/-! ## Images read byte by byte (R193) -/

/-- The number that the `n` bytes at offset `off` of an image spell, the least significant byte first. -/
def imageField (image : List Byte) (off n : Nat) : Nat :=
  ((List.range n).map fun k => (image.getD (off + k) 0).toNat * 256 ^ k).sum

/-! ## The whole part -/

/-- Every block is sound. -/
structure State.Sound (s : State) : Prop where
  attention : s.attentionSound
  hops : s.hopsSound
  holds : s.holdsSound
  paths : s.pathsSound
  slots : s.slotsSound
  routes : s.routesSound
  time : s.time.sound
  queues : s.queuesSound
  chan : s.chan.sound

end Sys2Proof.Machine
end

