-- ==== Sys2Proof/Certificates/Slice0/Obligations.lean ====
section
/-! DEFINITION. The statements about the model. Each docstring names the rules it formalises. -/

open Sys2Proof Sys2Proof.Machine

/-! ## The step -/

/-- The step runs the command at the front of the queue with the queue's rest. The queue is the model's (log 1). -/
def Obligations.StepRunsFrontCommand : Prop :=
  ∀ (c : Instr) (rest : List Instr) (s : State),
    s.pending = c :: rest → step s = exec c { s with pending := rest }

/-! ## Resets -/

/-- R42, R94, R141 and the other blocks' power-on values. That the waiting commands, what was driven out, the
levels of the frame-select wires and the numbering of reads stay is the model's choice (log 9); that signals,
triggers and ticks on their way are dropped is its reading (log 10, log 11), and the empty answer is its own
field (log 6). -/
def Obligations.PowerOnResetSetsInitialContents : Prop :=
  ∀ s : State, ∃ t, exec .powerOnReset s = .next t ∧
    (∀ l : LineIndex, t.lines[l] = ⟨.stopped, s.lines[l].frameSelect, none, none, ⟨0, 0, 0, 0, 0, 0, 0⟩⟩) ∧
    t.arbiter = 0 ∧
    (∀ h : HopIndex, t.hops[h] = ⟨.vacant, ⟨0, 0, 0, 0, 0, 0, 0, 0, 0, 0⟩, 0, 0, 0, 0, 0, none, 0, 0, 0, false⟩) ∧
    (∀ k : LevelIndex, t.holds[k] = none) ∧
    (∀ p : PathIndex, t.paths[p] =
      ⟨.vacant, ⟨0, 0, 0, 0, 0, 0, 0, 0⟩, 0, .none, 0, 0, 0, false, 0, none, 0⟩) ∧
    t.profiles.toList = [25, 50, 100, 150, 200, 300, 400] ∧
    t.time = ⟨.unset, 0, 0, 0, 0, 10000, 3, 0, 0, none, 0, 0⟩ ∧ (∀ x, t.ticks.owed x = 0) ∧
    t.probeSignals = [] ∧ t.routeSignals = [] ∧
    (∀ k : SlotIndex, t.probe.slots[k] = .free) ∧ t.probe.backlog = [] ∧ t.probe.transmitter = none ∧
    t.probe.receiving = none ∧ t.probe.terminalId = 0 ∧ t.probe.lead = 0 ∧ t.probe.taken = 0 ∧
    t.probe.counters.toList = List.replicate 17 0 ∧
    (∀ i : RouteIndex, t.routes[i] =
      ⟨.vacant, [], none, 0, none, 0, Vector.replicate 4 ⟨false, 0⟩, ⟨0, 0, 0, 0⟩, false, false, 0⟩) ∧
    t.classes.toList = [⟨true, false, true, 0, 50000⟩, ⟨true, true, true, 0, 200000⟩,
      ⟨false, true, true, 0, 1048575⟩, ⟨false, true, false, 0, 0⟩] ∧
    t.service = 0 ∧ t.routeTaken = 0 ∧ t.attentionCount = 0 ∧ t.triggers = [] ∧
    t.steering = ⟨none, [], none⟩ ∧
    t.chan = ⟨.idle, 0, false, 0, ⟨.none, .none, 0, 0, 0, .none⟩, .idle, false,
      ⟨false, false, false, false⟩, false, false, ⟨false, false, false, false⟩, s.chan.nextTag⟩ ∧
    t.pending = s.pending ∧ t.sent = s.sent

/-- R43: the hop records after a warm reset. -/
def Obligations.WarmResetSetsHopsDown : Prop :=
  ∀ (source : WarmSource) (s : State), ∃ t, exec (.warmReset source) s = .next t ∧ t.holds = s.holds ∧
    ∀ h : HopIndex, t.hops[h] =
      if s.hops[h].state = .vacant then s.hops[h]
      else
        { s.hops[h] with
          state := .down
          bad := max s.hops[h].config.badLimit.toNat 1
          clearHold := none
          silence := 0
          profile := 0
          margin := 0
          errors := 0
          attention := true }

/-- The warm-reset values of every other block but the Route Table (R2, R12, R54, R74, R95, R122, R161,
R181). What stays beside them is the model's choice (log 9); that the probe timers are reloaded against the hops
after their own reset (log 20) and that signals, triggers and ticks on their way are dropped (log 10, log 11) are
its readings. -/
def Obligations.WarmResetKeepsConfiguration : Prop :=
  ∀ (source : WarmSource) (s : State), ∃ t, exec (.warmReset source) s = .next t ∧
    (∀ l : LineIndex, t.lines[l] = ⟨.stopped, s.lines[l].frameSelect, none, none, ⟨0, 0, 0, 0, 0, 0, 0⟩⟩) ∧
    t.arbiter = 0 ∧ t.profiles = s.profiles ∧ t.classes = s.classes ∧
    (∀ p : PathIndex, t.paths[p] =
      if s.paths[p].body = .vacant then s.paths[p]
      else { s.paths[p] with loss := 0, lost := false, timer := t.fullInterval p }) ∧
    t.time =
      { s.time with
        state := .unset
        count := 0
        fraction := 0
        aApp := s.time.aInt
        epoch := s.time.epoch + 1
        supervision := none
        lastError := 0
        periods := 0 } ∧
    (∀ x, t.ticks.owed x = 0) ∧ t.probeSignals = [] ∧ t.routeSignals = [] ∧ t.triggers = [] ∧
    t.probe =
      ⟨Vector.replicate 32 .free, [], none, none, s.probe.terminalId, s.probe.lead, s.time.epoch + 1,
        ⟨0, 0, 0, 0, 0, 0, 0, 0, 0, 0, 0, 0, 0, 0, 0, 0, 0⟩⟩ ∧
    t.service = 0 ∧ t.routeTaken = s.time.epoch + 1 ∧ t.attentionCount = t.flagsSet ∧
    t.steering = ⟨none, [], none⟩ ∧
    t.chan =
      ⟨.idle, 0, false, 0, ⟨.none, .none, 0, 0, 0, .none⟩, .idle, false, ⟨false, false, false, false⟩,
        source = .pin && s.chan.busMaster, source = .pin && s.chan.messages,
        (if source = .pin then s.chan.masks else ⟨false, false, false, false⟩), s.chan.nextTag⟩ ∧
    t.pending = s.pending ∧ t.sent = s.sent

/-- R142: after a warm reset no route has a usable tower chain. -/
def Obligations.WarmResetLeavesRoutesOnFallbackOrDark : Prop :=
  ∀ (source : WarmSource) (s : State), s.pathsSound → s.routesSound →
    ∃ t, exec (.warmReset source) s = .next t ∧
      ∀ i : RouteIndex,
        if s.routes[i].state = .vacant then t.routes[i] = s.routes[i]
        else
          t.routes[i].state = (if s.routes[i].fallback.isSome then .fallback else .dark) ∧
            t.routes[i].choice = s.routes[i].fallback ∧
            t.routes[i].attention = true ∧ t.routes[i].rerank = false ∧
            t.routes[i].contexts = Vector.replicate 4 ⟨false, 0⟩ ∧
            t.routes[i].candidates = s.routes[i].candidates ∧
            t.routes[i].fallback = s.routes[i].fallback ∧
            t.routes[i].refLength = s.routes[i].refLength ∧
            t.routes[i].counters = s.routes[i].counters ∧
            t.routes[i].generation = s.routes[i].generation

/-! ## Report lines -/

/-- R8: a frame begins, and each clock edge shifts one bit in. That a begin with frame-select active already
changes nothing is the model's choice (log 3). -/
def Obligations.FrameBeginsAndGathersBits : Prop :=
  ∀ (l : LineIndex) (s : State),
    (s.lines[l].frameSelect = false → s.lines[l].stage = none →
      exec (.reportFrameBegin l) s = .next (s.setLine l
        { s.lines[l] with
          frameSelect := true
          stage := some ⟨decide (s.lines[l].state = .running), 0, 0⟩ })) ∧
    (s.lines[l].frameSelect = true → exec (.reportFrameBegin l) s = .next s) ∧
    (∀ bit g, s.lines[l].frameSelect = true → s.lines[l].stage = some g →
      exec (.reportClockEdge l bit) s = .next (s.setLine l
        { s.lines[l] with
          stage := some
            { g with
              bits := if g.count < 64 then g.bits.extractLsb' 0 63 ++ BitVec.ofBool bit else g.bits
              count := if g.count < 65 then g.count + 1 else 65 } })) ∧
    ∀ bit, s.lines[l].frameSelect = false ∨ s.lines[l].stage = none →
      exec (.reportClockEdge l bit) s = .next s

/-- R8: the first 64 bits stand in the stage in order of arrival, however many arrive. -/
def Obligations.StageKeepsBitsInOrderOfArrival : Prop :=
  ∀ (admitted : Bool) (bits : List Bool),
    let g := bits.foldl Stage.shift ⟨admitted, 0, 0⟩
    g.admitted = admitted ∧ g.count = min bits.length 65 ∧
      ∀ k < min bits.length 64, g.bits.getLsbD (min bits.length 64 - 1 - k) = bits.getD k false

/-- R9: the five cases of a frame's end, the stamp, and the end of SUSPENDING. A frame that STOP or a reset
discarded ends unseen (R2, R6). That a frame end on a wire whose frame-select is already inactive changes nothing
is the model's choice (log 3). -/
def Obligations.FrameEndIsDealtWithByFirstCase : Prop :=
  (∀ (l : LineIndex) (s : State), s.lines[l].stage = none →
    exec (.reportFrameEnd l) s = .next (s.setLine l { s.lines[l] with frameSelect := false })) ∧
  ∀ (l : LineIndex) (s : State) (g : Stage),
    s.lines[l].frameSelect = true → s.lines[l].stage = some g →
    let x : Line := s.lines[l]
    let c : LineCounters := x.counters
    let ended : Line :=
      { x with
        frameSelect := false
        stage := none
        state := if x.state = .suspending then .suspended else x.state }
    exec (.reportFrameEnd l) s = .next (s.setLine l
      (if g.count ≠ 64 then { ended with counters := { c with lengthErrors := min (c.lengthErrors + 1) 65535 } }
       else if g.admitted = false then
        { ended with counters := { c with refused := min (c.refused + 1) 65535 } }
       else if g.bits.extractLsb' 56 8 ≠ 0xA5 ∨ frameByteSum g.bits % 256 ≠ 0 then
        { ended with counters := { c with checkErrors := min (c.checkErrors + 1) 65535 } }
       else if x.buffer = none then { ended with buffer := some ⟨g.bits, s.time.count⟩ }
       else { ended with counters := { c with overrun := min (c.overrun + 1) 65535 } }))

/-- R4, R5, R6, R16: the three line actions and READ-LINE, each completing DONE, as requests of their own with the
answer kept (log 4, log 6). That SUSPEND goes to SUSPENDED at once is the model's reading both with a frame in
progress that was not admitted (log 14) and with one on the wire that STOP or a reset discarded (log 29). -/
def Obligations.LineRequestsActOnTheLine : Prop :=
  ∀ (l : LineIndex) (s : State),
    Applies (.run l) s (s.setLine l { s.lines[l] with state := .running }) ⟨.done, .none, []⟩ ∧
    (s.lines[l].state = .running → (∃ g, s.lines[l].stage = some g ∧ g.admitted = true) →
      Applies (.suspend l) s (s.setLine l { s.lines[l] with state := .suspending }) ⟨.done, .none, []⟩) ∧
    (s.lines[l].state = .running → (∀ g, s.lines[l].stage = some g → g.admitted = false) →
      Applies (.suspend l) s (s.setLine l { s.lines[l] with state := .suspended }) ⟨.done, .none, []⟩) ∧
    (s.lines[l].state ≠ .running → Applies (.suspend l) s s ⟨.done, .none, []⟩) ∧
    Applies (.stop l) s
      (s.setLine l { s.lines[l] with state := .stopped, stage := none, buffer := none })
      ⟨.done, .none, []⟩ ∧
    Applies (.readLine l false) s s ⟨.done, .none, s.lines[l].image⟩ ∧
    Applies (.readLine l true) s (s.setLine l { s.lines[l] with counters := ⟨0, 0, 0, 0, 0, 0, 0⟩ })
      ⟨.done, .none, s.lines[l].image⟩

/-! ## The hop update arbiter and the turns -/

/-- R12: the turn goes to the first requesting position met in circular order from the pointer. -/
def Obligations.ArbiterGrantsFirstFromPointer : Prop :=
  ∀ (s : State) (p : Fin 9),
    s.granted = some p ↔
      ∃ k < 9, p = Fin.ofNat 9 (s.arbiter.val + k) ∧ s.requests p = true ∧
        ∀ j < k, s.requests (Fin.ofNat 9 (s.arbiter.val + j)) = false

/-- R13: the three cases of a line's turn; the buffer is emptied and the pointer moves on in each. -/
def Obligations.LineTurnDealsWithBufferedFrame : Prop :=
  ∀ (s : State) (l : LineIndex) (f : BitVec 64) (stamp : Quad),
    s.granted = some l.castSucc → s.lines[l].buffer = some ⟨f, stamp⟩ →
    let hop := (f.extractLsb' 48 8).toNat
    let field := (f.extractLsb' 41 3).toNat
    let x : Line := s.lines[l]
    let c : LineCounters := x.counters
    let turned := s.setArbiter (Fin.ofNat 9 (l.val + 1))
    let unknown := turned.setLine l
      { x with buffer := none, counters := { c with unknownHop := min (c.unknownHop + 1) 65535 } }
    let misrouted := turned.setLine l
      { x with buffer := none, counters := { c with misrouted := min (c.misrouted + 1) 65535 } }
    let absorbed := turned.setLine l
      { x with buffer := none, counters := { c with absorbed := min (c.absorbed + 1) 65535 } }
    (64 ≤ hop → exec .lineTurn s = .next unknown) ∧
    ∀ i : HopIndex, i.val = hop →
      (s.hops[i].state = .vacant → exec .lineTurn s = .next unknown) ∧
      (s.hops[i].state ≠ .vacant → (field ≠ s.hops[i].config.line.val ∨ field ≠ l.val) →
        exec .lineTurn s = .next misrouted) ∧
      (s.hops[i].state ≠ .vacant → field = s.hops[i].config.line.val → field = l.val →
        exec .lineTurn s = .next (absorbed.absorb i
          ⟨f.extractLsb' 45 3, f.getLsbD 44, f.extractLsb' 24 16, f.extractLsb' 16 8⟩ stamp))

/-- R20, R49: what absorbing a report does to the hop record, and the re-ranks it triggers. -/
def Obligations.AbsorbedReportCopiesAndTriggers : Prop :=
  ∀ (s : State) (i : HopIndex) (r : Report) (stamp : Quad),
    let h : Hop := s.hops[i]
    let copied : Hop :=
      { h with profile := r.profile, margin := r.margin, errors := r.errors, stamp := stamp, silence := 0 }
    let h' : Hop := if s.held i then copied else copied.judge r
    let t := s.absorb i r stamp
    t.hops[i] = h' ∧ (∀ j : HopIndex, j ≠ i → t.hops[j] = s.hops[j]) ∧
    t.triggers = s.triggers ++ (if h'.state ≠ h.state then [Trigger.hop i] else []) ++
      (if r.profile ≠ h.profile then [Trigger.hop i] else []) ∧
    { t with
      hops := s.hops, triggers := s.triggers, attentionCount := s.attentionCount, chan := s.chan } = s

/-- R19, R21 to R25: the state summary of section 2.3. -/
def Obligations.ReportMovesHopByStateSummary : Prop :=
  ∀ (h : Hop) (r : Report), h.state ≠ .vacant →
    let L := max h.config.badLimit.toNat 1
    let bad := r.profile = 0 ∨ r.margin.toInt < h.config.fade.toInt ∨ h.config.errorLimit < r.errors
    let marginal := r.margin.toInt < h.config.clear.toInt ∨ r.profile < h.config.nominal
    let counted : Hop :=
      if h.bad + 1 = L then
        { h with state := .faded, bad := h.bad + 1, clearHold := none, attention := true }
      else { h with bad := h.bad + 1, clearHold := none }
    let faded : Hop := { h with state := .faded, attention := true }
    (r.linkLost = true → h.judge r =
      if h.state = .down then h
      else { h with state := .down, bad := L, clearHold := none, silence := 0, attention := true }) ∧
    (r.linkLost = false → bad → h.judge r =
      match h.state with
      | .clear | .fading => counted
      | .faded => { h with clearHold := none }
      | .down => faded
      | .vacant => h) ∧
    (r.linkLost = false → ¬ bad → marginal → h.judge r =
      match h.state with
      | .clear => { h with state := .fading }
      | .fading | .faded => { h with clearHold := none }
      | .down => faded
      | .vacant => h) ∧
    (r.linkLost = false → ¬ bad → ¬ marginal → h.judge r =
      match h.state with
      | .clear => { h with bad := 0 }
      | .fading => { h with bad := 0, clearHold := some (h.clearHold.getD 0) }
      | .faded => { h with clearHold := some (h.clearHold.getD 0) }
      | .down => { faded with clearHold := some 0 }
      | .vacant => h)

/-- R14: the channel's turn applies the waiting hop request at the record, as the request does where no turn is
waited for (WriteHopSetsTheRecord, RetireClearAndReadHop), and its answer goes to the block; the request as a
command is that turn, and waits while another position is granted. The apply as an event of its own, the answer
as a field and the request as a command are the model's (log 4, 5, 6); that the turn changes nothing where the
grant is not the channel's is its choice (log 3). -/
def Obligations.MaintenanceTurnAppliesWaitingRequest : Prop :=
  ∀ (s : State) (b : Block) (i : HopIndex),
    (s.granted = some 8 →
      (s.chan.work = .applying b (.clearHopCounts i) →
        exec .maintenanceTurn s = .next
          ((((s.setArbiter 0).setHop i { s.hops[i] with outage := 0, errors := 0 }).setReply
            ⟨.done, .none, []⟩).reachCondition b .done .none)) ∧
      (s.chan.work = .applying b (.readHop i) →
        exec .maintenanceTurn s = .next
          (((s.setArbiter 0).setReply ⟨.done, .none, s.hops[i].image⟩).setChan
            { s.chan with work := .writing b (s.hops[i].image.take b.count.toNat) b.dataAddress }))) ∧
    ∀ (image : HopImage) (c : Instr),
      c ∈ [Instr.readHop i, .writeHop i image, .retireHop i, .clearHopCounts i] →
      s.chan.work = .applying b c →
      exec c s = exec .maintenanceTurn s ∧
      (s.granted ≠ some 8 → exec .maintenanceTurn s = .next s) ∧
      (s.granted = some 8 →
        ∃ u, exec c { s with chan := { s.chan with work := .idle } } = .next u ∧
          exec .maintenanceTurn s = .next
            (State.finishApply b u.reply
              { u with arbiter := 0, chan := { u.chan with work := .applying b c } }))

/-! ## Hop requests and hop timers -/

/-- R135: writing a record counts its attention flag; the rise of the count from 0 raises the vector. -/
def Obligations.AttentionFlagIsCounted : Prop :=
  ∀ (s : State) (old new : Bool),
    let t := s.countAttention old new
    (old = new → t = s) ∧
    (old = true → new = false → t = { s with attentionCount := s.attentionCount - 1 }) ∧
    (old = false → new = true →
      t.attentionCount = s.attentionCount + 1 ∧
      (s.attentionCount ≠ 0 → t.chan = s.chan) ∧
      (s.attentionCount = 0 →
        t.chan = { s.chan with pendingIrq := { s.chan.pendingIrq with attention := true } }) ∧
      { t with attentionCount := s.attentionCount, chan := s.chan } = s)

/-- R36, R37, R38: WRITE-HOP at the record, where the channel is not waiting with this request at the arbiter.
A hop request taken with no turn of the arbiter, and its answer as a field, are the model's (log 4, log 6). -/
def Obligations.WriteHopSetsTheRecord : Prop :=
  ∀ (i : HopIndex) (image : HopImage) (s : State),
    ¬ s.waitsFor (.writeHop i image) →
    let h : Hop := s.hops[i]
    let config : HopConfig :=
      { line := Fin.ofNat 8 image.line.toNat
        nominal := image.nominal.setWidth 3
        fade := image.fade
        clear := image.clear
        errorLimit := image.errorLimit
        badLimit := image.badLimit.setWidth 4
        restore := image.restore
        silence := image.silence
        propagation := image.propagation.setWidth 20
        regeneration := image.regeneration.setWidth 12 }
    (∀ cause, image.check = some cause →
      exec (.writeHop i image) s = .next { s with reply := ⟨.none, cause, []⟩ }) ∧
    (image.check = none → h.state = .vacant →
      exec (.writeHop i image) s = .next
        { (s.putHop i ⟨.down, config, 0, 0, 0, 0, max config.badLimit.toNat 1, none, 0, 0,
            h.generation + 1, true⟩) with
          triggers := s.triggers ++ [.hop i], reply := ⟨.done, .none, []⟩ }) ∧
    (image.check = none → h.state ≠ .vacant →
      exec (.writeHop i image) s = .next
        { (s.setHop i
            { h with
              config := config
              bad := if h.state = .clear ∨ h.state = .fading then 0 else max config.badLimit.toNat 1
              silence := if config.line = h.config.line then h.silence else 0
              generation := h.generation + 1 }) with
          triggers := s.triggers ++ [.hop i], reply := ⟨.done, .none, []⟩ })

/-- R39, R40, R41: RETIRE-HOP, CLEAR-HOP-COUNTS and READ-HOP at the record, where the channel is not waiting with
the request at the arbiter (for that case see MaintenanceTurnAppliesWaitingRequest). A hop request taken with no
turn of the arbiter, and its answer as a field, are the model's (log 4, log 6). -/
def Obligations.RetireClearAndReadHop : Prop :=
  ∀ (i : HopIndex) (s : State),
    let h : Hop := s.hops[i]
    (¬ s.waitsFor (.retireHop i) →
      ((∃ p : PathIndex, i ∈ s.paths[p].body.hops) →
        exec (.retireHop i) s = .next { s with reply := ⟨.mismatch, .inUse, []⟩ }) ∧
      ((∀ p : PathIndex, i ∉ s.paths[p].body.hops) →
        exec (.retireHop i) s = .next
          { (s.putHop i ⟨.vacant, ⟨0, 0, 0, 0, 0, 0, 0, 0, 0, 0⟩, 0, 0, 0, 0, 0, none, 0, 0,
              h.generation + 1, false⟩) with
            triggers := s.triggers ++ (if h.state = .vacant then [] else [.hop i])
            reply := ⟨.done, .none, []⟩ })) ∧
    (¬ s.waitsFor (.clearHopCounts i) →
      exec (.clearHopCounts i) s = .next
        { (s.setHop i { h with outage := 0, errors := 0 }) with reply := ⟨.done, .none, []⟩ }) ∧
    (¬ s.waitsFor (.readHop i) →
      exec (.readHop i) s = .next { s with reply := ⟨.done, .none, h.image⟩ })

/-- R75, R26 to R30, R49, R80, R84, R97, R111, R169: what a millisecond tick moves at each place, and the
expiries of a hop record and of the supervision timer, made in the event of the tick that reaches them. The ticks
a place has still to take are the model's count (log 11), a tick names its place (log 12), an expiry's row is the
tick that reaches it (log 13), and a read fails on its 50th tick (log 28). With both expiries of a hop due the
clear-hold expiry is made first, so that two triggers wait (log 26), and at a silence limit of 1 the tick after a
report takes the hop DOWN (log 30): both are the model's. -/
def Obligations.TimersAdvanceAndExpire : Prop :=
  (∀ (x : TickPlace) (s : State), s.ticks.owed x = 0 → exec (.millisecondTick x) s = .next s ∧
    ∀ i : HopIndex, x = .hop i →
      exec (.clearHoldExpiry i) s = .next s ∧ exec (.silenceExpiry i) s = .next s) ∧
  (∀ (x : TickPlace) (s : State), ∃ t, exec (.millisecondTick x) s = .next t ∧
    ∀ y, t.ticks.owed y = if y = x then s.ticks.owed y - 1 else s.ticks.owed y) ∧
  (∀ (i : HopIndex) (s : State), s.ticks.owed (.hop i) ≠ 0 →
    let h : Hop := s.hops[i]
    let grown : Hop :=
      if s.held i = true ∨ h.state = .vacant then h
      else
        { h with
          outage := if h.state = .faded ∨ h.state = .down then min (h.outage + 1) 4294967295 else h.outage
          clearHold := h.clearHold.map fun v => min (v + 1) 65535
          silence :=
            if h.state ≠ .down ∧ s.lines[h.config.line].state = .running ∧ h.config.silence ≠ 0 then
              min (h.silence + 1) 65535
            else h.silence }
    let clearDue : Prop := s.held i = false ∧ (h.state = .fading ∨ h.state = .faded) ∧
      ∃ v, grown.clearHold = some v ∧ max h.config.restore.toNat 1 ≤ v
    let silenceDue : Prop := s.held i = false ∧ h.state ≠ .vacant ∧ h.state ≠ .down ∧
      s.lines[h.config.line].state = .running ∧ h.config.silence ≠ 0 ∧ h.config.silence.toNat ≤ grown.silence
    let cleared : Hop :=
      { grown with
        state := .clear
        bad := if h.state = .faded then 0 else h.bad
        clearHold := none
        attention := h.attention || decide (h.state = .faded) }
    let silenced : Hop :=
      { grown with
        state := .down
        bad := max h.config.badLimit.toNat 1
        clearHold := none
        silence := 0
        attention := true }
    (∃ t, exec (.millisecondTick (.hop i)) s = .next t ∧
      (¬ clearDue → ¬ silenceDue → { t with ticks := s.ticks } = s.setHop i grown) ∧
      (clearDue → ¬ silenceDue →
        { t with ticks := s.ticks } =
          { (s.putHop i cleared) with triggers := s.triggers ++ [.hop i] }) ∧
      (¬ clearDue → silenceDue →
        { t with ticks := s.ticks } =
          { (s.putHop i silenced) with triggers := s.triggers ++ [.hop i] }) ∧
      (clearDue → silenceDue →
        { t with ticks := s.ticks } =
          { (s.putHop i silenced) with triggers := s.triggers ++ [.hop i, .hop i] })) ∧
    (clearDue → exec (.clearHoldExpiry i) s = exec (.millisecondTick (.hop i)) s) ∧
    (¬ clearDue → exec (.clearHoldExpiry i) s = .next s) ∧
    (silenceDue → exec (.silenceExpiry i) s = exec (.millisecondTick (.hop i)) s) ∧
    (¬ silenceDue → exec (.silenceExpiry i) s = .next s)) ∧
  (∀ s : State, s.ticks.owed .supervision ≠ 0 →
    ∃ t, exec (.millisecondTick .supervision) s = .next t ∧
      { t with ticks := s.ticks } =
        if s.time.state = .tracking ∧ s.time.supervision.map (fun v => min (v + 1) 1500) = some 1500 then
          { s with
            time := { s.time with state := .holdover, aApp := s.time.aInt, supervision := some 1500 }
            chan := { s.chan with pendingIrq := { s.chan.pendingIrq with timeState := true } } }
        else
          { s with time :=
              { s.time with supervision := s.time.supervision.map fun v => min (v + 1) 1500 } }) ∧
  (∀ (k : SlotIndex) p q t1 n v (s : State),
    s.ticks.owed (.slot k) ≠ 0 → s.probe.slots[k] = .sent p q t1 n v → 2 ≤ n →
    ∃ t, exec (.millisecondTick (.slot k)) s = .next t ∧
      { t with ticks := s.ticks } =
        { s with probe := { s.probe with slots := s.probe.slots.set k (.sent p q t1 (n - 1) v) } }) ∧
  (∀ (p : PathIndex) v (s : State), s.ticks.owed (.path p) ≠ 0 → s.paths[p].timer = some v → 2 ≤ v →
    ∃ t, exec (.millisecondTick (.path p)) s = .next t ∧
      { t with ticks := s.ticks } =
        { s with paths := s.paths.set p { s.paths[p] with timer := some (v - 1) } }) ∧
  (∀ (k : SlotIndex) (s : State),
    s.ticks.owed (.slot k) ≠ 0 → (∀ p q t1 n v, s.probe.slots[k] ≠ .sent p q t1 n v) →
    ∃ t, exec (.millisecondTick (.slot k)) s = .next t ∧ { t with ticks := s.ticks } = s) ∧
  (∀ (p : PathIndex) (s : State), s.ticks.owed (.path p) ≠ 0 → s.paths[p].timer = none →
    ∃ t, exec (.millisecondTick (.path p)) s = .next t ∧ { t with ticks := s.ticks } = s) ∧
  ∀ s : State, s.ticks.owed .channel ≠ 0 → s.chan.work.waited < 49 →
    ∃ t, exec (.millisecondTick .channel) s = .next t ∧
      { t with ticks := s.ticks } =
        { s with chan := { s.chan with work :=
            match s.chan.work with
            | .fetching tag address n skipped => .fetching tag address (n + 1) skipped
            | .reading tag b n => .reading tag b (n + 1)
            | w => w } }

/-- R30: when both timers of a hop expire on one tick, the outcome is the same whichever expiry is made first,
but for how many triggers name the hop: the hop ends DOWN, with attention set and a re-rank triggered. The order
within the tick is the model's (log 26). -/
def Obligations.HopExpiryOrderIsImmaterial : Prop :=
  ∀ (i : HopIndex) (s : State),
    let a : State := (s.clearHoldExpiry i).silenceExpiry i
    let b : State := (s.silenceExpiry i).clearHoldExpiry i
    { a with triggers := b.triggers } = b ∧
    (∃ m n : Nat, a.triggers = s.triggers ++ List.replicate m (.hop i) ∧
      b.triggers = s.triggers ++ List.replicate n (.hop i) ∧ (m = 0 ↔ n = 0)) ∧
    (s.hops[i].clearHoldDue (s.held i) = true →
      s.hops[i].silenceDue (s.held i) (s.lineRunning s.hops[i].config.line) = true →
      a.hops[i].state = .down ∧ a.hops[i].attention = true ∧
        a.triggers = s.triggers ++ [.hop i, .hop i] ∧ b.triggers = s.triggers ++ [.hop i])

/-! ## Maintenance holds -/

/-- R47: a hop index is held while any placed level's set contains it. -/
def Obligations.HeldWhileSomePlacedLevelNamesIt : Prop :=
  ∀ (s : State) (i : HopIndex),
    s.held i = true ↔ ∃ (k : LevelIndex) (set : BitVec 64), s.holds[k] = some set ∧ set.getLsbD i = true

/-- R45, R47, R48: PLACE-HOLD. The request as a command of its own (log 4) and the answer kept in a field (log 6)
are the model's choices. -/
def Obligations.PlaceHoldPlacesOnTop : Prop :=
  ∀ (k : LevelIndex) (map : BitVec 64) (s : State),
    (s.holds[k] ≠ none → Applies (.placeHold k map) s s ⟨.mismatch, .levelPlaced, []⟩) ∧
    (∀ j : LevelIndex, s.holds[k] = none → j.val + 1 = k.val → s.holds[j] = none →
      Applies (.placeHold k map) s s ⟨.mismatch, .levelBelowFree, []⟩) ∧
    (s.holds[k] = none → (∀ j : LevelIndex, j.val + 1 = k.val → s.holds[j] ≠ none) →
      let changed : HopIndex → Bool := fun i =>
        decide (s.hops[i].state ≠ .vacant) && map.getLsbD i && !s.held i
      Applies (.placeHold k map) s
        { s with
          holds := s.holds.set k (some map)
          hops := Vector.ofFn fun i : HopIndex =>
            if changed i then { s.hops[i] with clearHold := none, silence := 0 } else s.hops[i]
          triggers := s.triggers ++ ((List.finRange 64).filter changed).map Trigger.hop }
        ⟨.done, .none, []⟩)

/-- R46, R47, R50: RELEASE-HOLD. The request as a command of its own (log 4) and the answer kept in a field (log 6)
are the model's choices. -/
def Obligations.ReleaseHoldFreesLevelAndAbove : Prop :=
  ∀ (k : LevelIndex) (s : State),
    (s.holds[k] = none → Applies (.releaseHold k) s s ⟨.mismatch, .levelFree, []⟩) ∧
    (s.holds[k] ≠ none →
      ∃ t, Applies (.releaseHold k) s t ⟨.done, .none, []⟩ ∧
        (∀ j : LevelIndex, t.holds[j] = if j < k then s.holds[j] else none) ∧
        (∀ i : HopIndex, t.hops[i] =
          if s.hops[i].state ≠ .vacant ∧ s.held i = true ∧ t.held i = false then
            { s.hops[i] with clearHold := none, silence := 0 }
          else s.hops[i]) ∧
        t.triggers = s.triggers ++ ((List.finRange 64).filter fun i : HopIndex =>
          decide (s.hops[i].state ≠ .vacant) && s.held i && !t.held i).map Trigger.hop ∧
        { t with holds := s.holds, hops := s.hops, triggers := s.triggers } = s)

/-! ## Path table -/

/-- R59: the profile requests. The request as a command of its own (log 4) and the answer kept in a field (log 6)
are the model's choices. -/
def Obligations.ProfileRequestsReplaceAndRead : Prop :=
  ∀ (entries : Vector Half 7) (s : State),
    Applies (.writeProfiles entries) s
      { s with profiles := entries, triggers := s.triggers ++ [.all] } ⟨.done, .none, []⟩ ∧
    Applies .readProfiles s s ⟨.done, .none,
      [0, 0] ++ s.profiles.toList.flatMap fun e => [e.extractLsb' 0 8, e.extractLsb' 8 8]⟩

/-- R67 to R70: WRITE-PATH. The geometry changes when the index was VACANT, when the kind changes, or when a
MICROWAVE path's hop list differs in length, in members or in order (R69). The request as a command of its own
(log 4) and the answer kept in a field (log 6) are the model's choices. -/
def Obligations.WritePathKeepsOrRenewsTheEstimate : Prop :=
  ∀ (p : PathIndex) (image : PathImage) (s : State),
    let x : Path := s.paths[p]
    let hops : List HopIndex :=
      (image.hops.toList.take image.hopCount.toNat).map fun b => Fin.ofNat 64 b.toNat
    let body : PathBody :=
      if image.kind = 1 then .microwave hops else .fibre (image.fibreLatency.setWidth 24) image.fibreRate
    let config : PathConfig :=
      { port := image.port.setWidth 4
        farId := image.farId
        asymmetry := image.asymmetry
        interval := image.interval
        echoTimeout := image.echoTimeout
        lossLimit := image.lossLimit.setWidth 4
        rejectWindow := image.rejectWindow
        shift := image.shift.setWidth 3 }
    let kept : Prop := (image.kind = 1 ∧ x.body = .microwave hops) ∨
      (image.kind ≠ 1 ∧ ∃ latency rate, x.body = .fibre latency rate)
    (∀ cause, image.check p s = some cause →
      Applies (.writePath p image) s s ⟨.none, cause, []⟩) ∧
    (image.check p s = none → kept →
      ∃ t, Applies (.writePath p image) s t ⟨.done, .none, []⟩ ∧
        t.paths[p] =
          { x with
            body := body
            config := config
            loss := if config.lossLimit = x.config.lossLimit then x.loss else 0
            timer := if config.interval = x.config.interval then x.timer else t.fullInterval p
            generation := x.generation + 1 } ∧
        (∀ q : PathIndex, q ≠ p → t.paths[q] = s.paths[q]) ∧
        t.triggers = s.triggers ++ [.path p] ∧
        { t with paths := s.paths, triggers := s.triggers } = s) ∧
    (image.check p s = none → ¬ kept →
      ∃ t, Applies (.writePath p image) s t ⟨.done, .none, []⟩ ∧
        t.paths[p] =
          ⟨body, config, 0, .none, 0, 0, 0, false, x.nextSeq, t.fullInterval p, x.generation + 1⟩ ∧
        (∀ q : PathIndex, q ≠ p → t.paths[q] = s.paths[q]) ∧
        (∀ k : SlotIndex, t.probe.slots[k] =
          if s.probe.slots[k].path? = some p then .free else s.probe.slots[k]) ∧
        t.triggers = s.triggers ++ [.path p] ∧
        { t with paths := s.paths, triggers := s.triggers, probe := { t.probe with slots := s.probe.slots } } = s)

/-- R71: RETIRE-PATH. The request as a command of its own (log 4) and the answer kept in a field (log 6) are the
model's choices. -/
def Obligations.RetirePathLeavesNoReference : Prop :=
  ∀ (p : PathIndex) (s : State), s.routesSound →
    ∃ t, exec (.retirePath p) s = .next t ∧
      t.paths[p] = ⟨.vacant, ⟨0, 0, 0, 0, 0, 0, 0, 0⟩, 0, .none, 0, 0, 0, false, s.paths[p].nextSeq, none,
        s.paths[p].generation + 1⟩ ∧
      (∀ q : PathIndex, q ≠ p → t.paths[q] = s.paths[q]) ∧
      (∀ k : SlotIndex, t.probe.slots[k] =
        if s.probe.slots[k].path? = some p then .free else s.probe.slots[k]) ∧
      (∀ i : RouteIndex,
        t.routes[i].candidates = s.routes[i].candidates.filter (fun q => decide (q ≠ p)) ∧
        t.routes[i].fallback = (if s.routes[i].fallback = some p then none else s.routes[i].fallback) ∧
        t.routes[i].choice ≠ some p ∧
        t.routes[i].contexts = s.routes[i].contexts ∧ t.routes[i].counters = s.routes[i].counters ∧
        (p ∉ s.routes[i].candidates → s.routes[i].fallback ≠ some p → t.routes[i] = s.routes[i])) ∧
      t.triggers = s.triggers ++ [.path p] ∧ t.reply = ⟨.done, .none, []⟩ ∧
      { t with
        paths := s.paths, routes := s.routes, triggers := s.triggers, reply := s.reply, chan := s.chan
        attentionCount := s.attentionCount, probe := { t.probe with slots := s.probe.slots } } = s

/-- R72, R73: RESTART-ESTIMATE and READ-PATH. The request as a command of its own (log 4) and the answer kept in a
field (log 6) are the model's choices. -/
def Obligations.RestartEstimateAndReadPath : Prop :=
  ∀ (p : PathIndex) (s : State),
    (s.paths[p].body ≠ .vacant →
      Applies (.restartEstimate p) s
        { s.setPath p { s.paths[p] with status := .none, accepted := 0, outlier := 0 } with
          triggers := s.triggers ++ [.path p] } ⟨.done, .none, []⟩) ∧
    (s.paths[p].body = .vacant → Applies (.restartEstimate p) s s ⟨.mismatch, .vacant, []⟩) ∧
    Applies (.readPath p) s s ⟨.done, .none, s.pathImage p⟩

/-- R58, R60 to R64: r_min, N_p, E_p, S_p(n), L_p(n) and the usability of a path of each kind. The latency of a
VACANT path, which no rule forms, is the model's 0 (R73, R194 show it so). -/
def Obligations.PathFiguresFollowTheirHops : Prop :=
  (∀ n rate : Nat, 1 ≤ rate →
    n * 8000 ≤ serialization n rate * rate ∧ serialization n rate * rate < n * 8000 + rate) ∧
  (∀ (s : State) (k : BitVec 3) (j : Fin 7), k.toNat = j.val + 1 →
    s.rate 0 = 0 ∧ s.rate k = max s.profiles[j].toNat 1) ∧
  (∀ (s : State) (hops : List HopIndex),
    s.nominalLatency (.microwave hops) =
      min ((hops.map fun h =>
        s.hops[h].config.propagation.toNat + s.hops[h].config.regeneration.toNat).sum) 16777215 ∧
    (hops ≠ [] → (∃ h ∈ hops, s.minRate (.microwave hops) = s.rate s.hops[h].profile) ∧
      ∀ h ∈ hops, s.minRate (.microwave hops) ≤ s.rate s.hops[h].profile)) ∧
  (∀ (s : State) (latency : BitVec 24) (rate : Half),
    s.minRate (.fibre latency rate) = rate.toNat ∧ s.nominalLatency (.fibre latency rate) = latency.toNat) ∧
  (∀ s : State, s.minRate .vacant = 0 ∧ s.nominalLatency .vacant = 0) ∧
  (∀ (s : State) (x : Path), s.latencyUsed x =
    if x.status = .steady then min ((x.estimate + 8) / 16) 16777215 else s.nominalLatency x.body) ∧
  (∀ (s : State) (p : PathIndex) (n : Nat),
    s.totalLatency p n = s.latencyUsed s.paths[p] + serialization n (s.minRate s.paths[p].body)) ∧
  ∀ (s : State) (c : ClassIndex) (p : PathIndex),
    (s.paths[p].body = .vacant → s.pathUsable c p = false) ∧
    (∀ latency rate, s.paths[p].body = .fibre latency rate → rate ≠ 0 →
      (s.pathUsable c p = true ↔ s.paths[p].lost = false)) ∧
    ∀ hops : List HopIndex, s.paths[p].body = .microwave hops → hops ≠ [] →
      (s.pathUsable c p = true ↔
        s.paths[p].lost = false ∧
        ∀ h ∈ hops, s.hops[h].profile ≠ 0 ∧ s.held h = false ∧
          (s.hops[h].state = .clear ∨ (s.hops[h].state = .fading ∧ s.classes[c].tolerateFading = true)))

/-! ## Content validation and read images -/

/-- R36, R67, R68, R89, R99, R127, R137: each write image is checked in the order of its rule, over the whole
width of each field, and the first failure names the cause. -/
def Obligations.ContentValidationNamesFirstFailure : Prop :=
  ∀ s : State,
    (∀ i : HopImage, i.check =
      if 7 < i.line.toNat then some .line
      else if i.nominal.toNat < 1 ∨ 7 < i.nominal.toNat then some .profile
      else if i.clear.toInt < i.fade.toInt then some .threshold
      else if 15 < i.badLimit.toNat then some .limit
      else if 1048575 < i.propagation.toNat ∨ 4095 < i.regeneration.toNat then some .delay
      else none) ∧
    (∀ (p : PathIndex) (i : PathImage),
      let listed : List Byte := i.hops.toList.take i.hopCount.toNat
      i.check p s =
        if i.kind ≠ 1 ∧ i.kind ≠ 2 then some .kind
        else if 15 < i.port.toNat then some .port
        else if i.farId = 0 then some .farId
        else if 1000 < i.interval.toNat then some .interval
        else if 15 < i.lossLimit.toNat then some .limit
        else if 7 < i.shift.toNat then some .shift
        else if i.kind = 1 ∧ (i.hopCount.toNat < 1 ∨ 12 < i.hopCount.toNat) then some .hopCount
        else if i.kind = 1 ∧ ∃ b ∈ listed, 63 < b.toNat then some .hopIndex
        else if i.kind = 1 ∧ ¬ listed.Nodup then some .hopDuplicate
        else if i.kind = 1 ∧ ∃ b ∈ listed, s.hops[(Fin.ofNat 64 b.toNat : HopIndex)].state = .vacant then
          some .hopVacant
        else if i.kind = 2 ∧ 16777215 < i.fibreLatency.toNat then some .fibreLatency
        else if i.kind = 2 ∧ i.fibreRate = 0 then some .fibreRate
        else if (i.kind = 1 ∧ s.paths[p].isFibre = true ∧
              ∃ r : RouteIndex, s.routes[r].state ≠ .vacant ∧ s.routes[r].fallback = some p) ∨
            (i.kind = 2 ∧ s.paths[p].isMicrowave = true ∧
              ∃ r : RouteIndex, s.routes[r].state ≠ .vacant ∧ p ∈ s.routes[r].candidates) then
          some .kindInUse
        else none) ∧
    (∀ i : RouteImage,
      let listed : List Byte := i.candidates.toList.take i.count.toNat
      i.check s =
        if 8 < i.count.toNat then some .candidateCount
        else if 1 < i.fallbackPresent.toNat then some .switch
        else if (∃ b ∈ listed, 127 < b.toNat) ∨ (i.fallbackPresent = 1 ∧ 127 < i.fallback.toNat) then
          some .pathIndex
        else if ¬ listed.Nodup then some .candidateDuplicate
        else if ∃ b ∈ listed, s.paths[(Fin.ofNat 128 b.toNat : PathIndex)].isMicrowave = false then
          some .candidateKind
        else if i.fallbackPresent = 1 ∧ s.paths[(Fin.ofNat 128 i.fallback.toNat : PathIndex)].isFibre = false then
          some .fallbackKind
        else if 16383 < i.refLength.toNat then some .length
        else none) ∧
    (∀ i : ClassImage, i.check =
      if 1 < i.tolerateFading.toNat ∨ 1 < i.fibreCompetes.toNat ∨ 1 < i.ordering.toNat then some .switch
      else if 1048575 < i.maxHold.toNat then some .maxHold
      else none) ∧
    (∀ i : TimingImage, i.check =
      if 1000000 < i.stepLimit.toNat then some .stepLimit
      else if 7 < i.integral.toNat then some .integral
      else if 7 < i.proportional.toNat then some .proportional
      else none) ∧
    ∀ i : DeviceImage, i.check = if 4095 < i.lead.toNat then some .lead else none

/-- R41, R53, R59, R73, R90, R127, R140: the read requests that only read change nothing and take an image. R187,
R193 to R196: each image has the size of the catalogue and the layout of its table, its state codes those of
R193. `f image off n` is the field of `n` bytes at offset `off`. That a stopped probe timer (log 31) and an
absent fallback (log 34) are shown as 0 is the model's choice. The request as a command of its own (log 4) and
the answer kept in a field (log 6) are the model's choices. -/
def Obligations.ReadRequestsTakeImagesAsLaidOut : Prop :=
  let f : List Byte → Nat → Nat → Nat := imageField
  let bit : Bool → Nat := fun b => if b then 1 else 0
  let hopCode : HopState → Nat := fun
    | .vacant => 0 | .clear => 1 | .fading => 2 | .faded => 3 | .down => 4
  let routeCode : RouteState → Nat := fun
    | .vacant => 0 | .normal => 1 | .fallback => 2 | .dark => 3
  ∀ s : State,
    Applies .readHolds s s ⟨.done, .none, holdsImage s.holds⟩ ∧
    Applies .readTime s s ⟨.done, .none, s.time.image⟩ ∧
    (∀ c : ClassIndex, Applies (.readClass c) s s ⟨.done, .none, s.classes[c].image⟩) ∧
    (∀ r : RouteIndex, Applies (.readRoute r) s s ⟨.done, .none, s.routes[r].image⟩) ∧
    (∀ i : HopIndex,
      let h : Hop := s.hops[i]
      let m : List Byte := h.image
      m.length = 56 ∧ f m 0 1 = hopCode h.state ∧ f m 1 1 = h.profile.toNat ∧
      f m 2 1 = bit h.clearHold.isSome ∧ f m 3 1 = bit h.attention ∧ f m 4 2 = h.margin.toNat ∧
      f m 6 1 = h.errors.toNat ∧ f m 7 1 = h.bad % 256 ∧ f m 8 2 = h.clearHold.getD 0 % 65536 ∧
      f m 10 2 = h.silence % 65536 ∧ f m 12 2 = h.generation.toNat ∧ f m 14 2 = 0 ∧
      f m 16 8 = h.stamp.toNat ∧ f m 24 4 = h.outage % 4294967296 ∧ f m 28 4 = 0 ∧
      f m 32 1 = h.config.line.val ∧ f m 33 1 = h.config.nominal.toNat ∧ f m 34 2 = h.config.fade.toNat ∧
      f m 36 2 = h.config.clear.toNat ∧ f m 38 1 = h.config.errorLimit.toNat ∧
      f m 39 1 = h.config.badLimit.toNat ∧ f m 40 2 = h.config.restore.toNat ∧
      f m 42 2 = h.config.silence.toNat ∧ f m 44 4 = h.config.propagation.toNat ∧
      f m 48 2 = h.config.regeneration.toNat ∧ f m 50 6 = 0) ∧
    (∀ p : PathIndex,
      let x : Path := s.paths[p]
      let m : List Byte := s.pathImage p
      m.length = 64 ∧
      f m 0 1 = (match x.body with | .vacant => 0 | .microwave _ => 1 | .fibre _ _ => 2) ∧
      f m 1 1 = x.config.port.toNat ∧ f m 2 1 = x.config.farId.toNat ∧
      f m 3 1 = x.body.hops.length % 256 ∧ f m 4 2 = x.config.asymmetry.toNat ∧
      f m 6 2 = x.config.interval.toNat ∧ f m 8 1 = x.config.echoTimeout.toNat ∧
      f m 9 1 = x.config.lossLimit.toNat ∧ f m 10 1 = x.config.shift.toNat ∧ f m 11 1 = 0 ∧
      f m 12 2 = x.config.rejectWindow.toNat ∧
      f m 14 2 = (match x.body with | .fibre _ rate => rate.toNat | _ => 0) ∧
      f m 16 4 = (match x.body with | .fibre latency _ => latency.toNat | _ => 0) ∧
      (∀ j < 12, f m (20 + j) 1 = ((x.body.hops[j]?).map Fin.val).getD 0) ∧
      f m 32 4 = x.estimate % 4294967296 ∧
      f m 36 1 = (match x.status with | .none => 0 | .settling => 1 | .steady => 2) ∧
      f m 37 1 = x.accepted % 256 ∧ f m 38 1 = x.outlier % 256 ∧ f m 39 1 = x.loss % 256 ∧
      f m 40 1 = bit x.lost ∧ f m 41 1 = bit x.timer.isSome ∧ f m 42 2 = x.timer.getD 0 % 65536 ∧
      f m 44 2 = x.nextSeq.toNat ∧ f m 46 2 = x.generation.toNat ∧ f m 48 2 = s.minRate x.body ∧
      f m 50 2 = 0 ∧ f m 52 4 = s.nominalLatency x.body ∧ f m 56 4 = s.latencyUsed x ∧ f m 60 4 = 0) ∧
    (∀ i : RouteIndex,
      let r : Route := s.routes[i]
      let m : List Byte := r.image
      m.length = 80 ∧ f m 0 1 = routeCode r.state ∧ f m 1 1 = bit r.attention ∧ f m 2 1 = bit r.rerank ∧
      f m 3 1 = bit r.choice.isSome ∧ f m 4 1 = (r.choice.map Fin.val).getD 0 ∧ f m 5 3 = 0 ∧
      f m 8 1 = r.candidates.length % 256 ∧ f m 9 1 = bit r.fallback.isSome ∧
      f m 10 2 = r.refLength.toNat ∧ f m 12 1 = (r.fallback.map Fin.val).getD 0 ∧ f m 13 3 = 0 ∧
      (∀ j < 8, f m (16 + j) 1 = ((r.candidates[j]?).map Fin.val).getD 0) ∧
      f m 24 4 = r.latency % 4294967296 ∧ f m 28 2 = r.generation.toNat ∧ f m 30 1 < 16 ∧
      (∀ c : ClassIndex, (f m 30 1).testBit c.val = r.contexts[c].valid) ∧ f m 31 1 = 0 ∧
      (∀ c : ClassIndex, f m (32 + 8 * c.val) 8 = r.contexts[c].last.toNat) ∧
      f m 64 4 = r.counters.ok % 4294967296 ∧ f m 68 4 = r.counters.fallback % 4294967296 ∧
      f m 72 4 = r.counters.waived % 4294967296 ∧ f m 76 4 = r.counters.noPath % 4294967296) ∧
    (∀ c : ClassIndex,
      let x : ClassPolicy := s.classes[c]
      let m : List Byte := x.image
      m.length = 16 ∧ f m 0 1 = bit x.tolerateFading ∧ f m 1 1 = bit x.fibreCompetes ∧
      f m 2 1 = bit x.ordering ∧ f m 3 1 = 0 ∧ f m 4 2 = x.gap.toNat ∧ f m 6 2 = 0 ∧
      f m 8 4 = x.maxHold.toNat ∧ f m 12 4 = 0) ∧
    (∀ m : List Byte, m = profilesImage s.profiles →
      m.length = 16 ∧ f m 0 2 = 0 ∧ ∀ j : Fin 7, f m (2 * j.val + 2) 2 = s.profiles[j].toNat) ∧
    (∀ m : List Byte, m = holdsImage s.holds →
      m.length = 72 ∧ (∀ k : LevelIndex, (f m 0 1).testBit k.val = s.holds[k].isSome) ∧ f m 1 7 = 0 ∧
      ∀ k : LevelIndex, f m (8 + 8 * k.val) 8 = (s.holds[k].getD 0).toNat) ∧
    (∀ (t : TimeBase) (m : List Byte), t = s.time → m = t.image →
      m.length = 32 ∧ f m 0 8 = t.count.toNat ∧
      f m 8 1 = (match t.state with | .unset => 0 | .set => 1 | .tracking => 2 | .holdover => 3) ∧
      f m 9 1 = t.epoch.toNat ∧ f m 10 1 = bit t.supervision.isSome ∧ f m 11 1 = t.integral.toNat ∧
      f m 12 1 = t.proportional.toNat ∧ f m 13 1 = 0 ∧ f m 14 2 = t.supervision.getD 0 % 65536 ∧
      (f m 16 4 : Int) = t.aInt % 4294967296 ∧ (f m 20 4 : Int) = t.aApp % 4294967296 ∧
      f m 24 4 = t.stepLimit.toNat ∧ (f m 28 4 : Int) = t.lastError % 4294967296) ∧
    (∀ l : LineIndex,
      let x : Line := s.lines[l]
      let c : LineCounters := x.counters
      let m : List Byte := x.image
      m.length = 16 ∧
      f m 0 1 = (match x.state with | .stopped => 0 | .running => 1 | .suspending => 2 | .suspended => 3) ∧
      f m 1 1 = bit x.buffer.isSome ∧ f m 2 2 = c.absorbed % 65536 ∧ f m 4 2 = c.checkErrors % 65536 ∧
      f m 6 2 = c.lengthErrors % 65536 ∧ f m 8 2 = c.unknownHop % 65536 ∧ f m 10 2 = c.misrouted % 65536 ∧
      f m 12 2 = c.refused % 65536 ∧ f m 14 2 = c.overrun % 65536) ∧
    (∀ (g : ProbeEngine) (c : DeviceCounters) (m : List Byte), g = s.probe → c = g.counters → m = g.image →
      m.length = 80 ∧ f m 0 1 = g.terminalId.toNat ∧ f m 1 1 = g.taken.toNat ∧ f m 2 2 = g.lead.toNat ∧
      f m 4 1 = (g.slots.toList.filter fun k => match k with | .queued _ _ => true | _ => false).length ∧
      f m 5 1 = (g.slots.toList.filter fun k => match k with | .sent _ _ _ _ _ => true | _ => false).length ∧
      f m 6 1 = g.backlog.length % 256 ∧ f m 7 1 = bit g.transmitter.isSome ∧
      (List.range 17).map (fun j => f m (8 + 4 * j) 4) =
        [c.probesSent, c.echoesMatched, c.unknownEchoes, c.timeouts, c.deferred, c.echoesSent, c.backlogDrops,
          c.lengthErrors, c.checkErrors, c.misdirected, c.looped, c.refused, c.stepDiscards, c.unusableEchoes,
          c.pulsesIgnored, c.spuriousPulses, c.steps].map (· % 4294967296) ∧
      f m 76 4 = 0) ∧
    (∀ i : HopIndex,
      let m : List Byte := hopNotice i s.hops[i]
      m.length = 8 ∧ f m 0 1 = 1 ∧ f m 1 1 = i.val ∧ f m 2 1 = hopCode s.hops[i].state ∧ f m 3 1 = 1 ∧
      f m 4 1 = s.hops[i].profile.toNat ∧ f m 5 3 = 0) ∧
    ∀ i : RouteIndex,
      let m : List Byte := routeNotice i s.routes[i]
      m.length = 8 ∧ f m 0 1 = 2 ∧ f m 1 1 = i.val ∧ f m 2 1 = routeCode s.routes[i].state ∧
      f m 3 1 = bit s.routes[i].choice.isSome ∧ f m 4 1 = (s.routes[i].choice.map Fin.val).getD 0 ∧
      f m 5 3 = 0

/-! ## Time Base -/

/-- R75, R76, R77: one oscillator period advances the time value with one carry or one borrow; a run of periods
advances it exactly, and over one second of periods the count gains A_app nanoseconds on 1,000,000,000. Every
125,000 periods a tick is delivered to every place that takes it; the ticks a place has still to take are the
model's count (log 11). -/
def Obligations.PeriodsAdvanceTimeExactly : Prop :=
  (∀ s : State,
    let t : TimeBase := s.time
    let f : Int := t.fraction + 8 * t.aApp
    ∃ u, exec .oscillatorPeriod s = .next u ∧ { u with time := t, ticks := s.ticks } = s ∧
      (1000000000 ≤ f → u.time.count = t.count + 9 ∧ u.time.fraction = f - 1000000000) ∧
      (f < 0 → u.time.count = t.count + 7 ∧ u.time.fraction = f + 1000000000) ∧
      (0 ≤ f → f < 1000000000 → u.time.count = t.count + 8 ∧ u.time.fraction = f) ∧
      (t.periods + 1 < 125000 → u.time.periods = t.periods + 1 ∧ u.ticks = s.ticks) ∧
      (125000 ≤ t.periods + 1 →
        u.time.periods = 0 ∧ ∀ x, u.ticks.owed x = s.ticks.owed x + 1) ∧
      { u.time with count := t.count, fraction := t.fraction, periods := t.periods } = t) ∧
  ∀ (n : Nat) (run : Nat → State),
    (run 0).time.sound →
    (∀ k < n, exec .oscillatorPeriod (run k) = .next (run (k + 1))) →
    let t : TimeBase := (run 0).time
    let sum : Int := t.fraction + 8 * n * t.aApp
    (run n).time =
      { t with
        count := t.count + BitVec.ofInt 64 (8 * n + sum / 1000000000)
        fraction := sum % 1000000000
        periods := (t.periods + n) % 125000 } ∧
    (∀ x, (run n).ticks.owed x = (run 0).ticks.owed x + (t.periods + n) / 125000) ∧
    { run n with time := t, ticks := (run 0).ticks } = run 0 ∧
    (n = 125000000 →
      (run n).time.count = t.count + BitVec.ofInt 64 (1000000000 + t.aApp) ∧
        (run n).time.fraction = t.fraction)

/-- R80 to R84: a reference pulse is ignored, spurious, or accepted and corrected for, by rate or by a step;
`e` is the distance of the count from the nearest whole second, halves up. The tick that brings the supervision
timer to 1,500 in TRACKING enters HOLDOVER. HOLDOVER_ENTRY as the name of that tick, and without effect on any
other, is the model's choice (log 13), and so is the count of ticks owed that both of its clauses ask (log 11). -/
def Obligations.ReferencePulseDisciplinesTheCount : Prop :=
  ∀ (s : State) (e k : Int),
    (s.time.count.toNat : Int) - e = 1000000000 * k → -500000000 ≤ e → e ≤ 499999999 →
    let t : TimeBase := s.time
    let c : DeviceCounters := s.probe.counters
    let told : Channel := { s.chan with pendingIrq := { s.chan.pendingIrq with timeState := true } }
    let rate : BitVec 3 → Int → Int := fun g a =>
      max (-500000) (min 500000 (a - (2 * e + 2 ^ g.toNat) / 2 ^ (g.toNat + 1)))
    (t.state = .unset →
      exec .referencePulse s = .next
        { s with probe := { s.probe with counters :=
            { c with pulsesIgnored := min (c.pulsesIgnored + 1) 4294967295 } } }) ∧
    (∀ v < 500, t.state ≠ .unset → t.supervision = some v →
      exec .referencePulse s = .next
        { s with probe := { s.probe with counters :=
            { c with spuriousPulses := min (c.spuriousPulses + 1) 4294967295 } } }) ∧
    (t.state ≠ .unset → (∀ v < 500, t.supervision ≠ some v) →
      (e.natAbs ≤ max t.stepLimit.toNat 1 →
        exec .referencePulse s = .next
          { s with
            time :=
              { t with
                state := .tracking
                supervision := some 0
                lastError := e
                aInt := rate t.integral t.aInt
                aApp := rate t.proportional (rate t.integral t.aInt) }
            chan := if t.state = .tracking then s.chan else told }) ∧
      (max t.stepLimit.toNat 1 < e.natAbs →
        exec .referencePulse s = .next
          { s with
            time :=
              { t with
                state := .tracking
                supervision := some 0
                lastError := e
                count := BitVec.ofInt 64 (1000000000 * k)
                aApp := t.aInt
                epoch := t.epoch + 1 }
            probe := { s.probe with counters := { c with steps := min (c.steps + 1) 4294967295 } }
            probeSignals := s.probeSignals ++ [t.epoch + 1]
            routeSignals := s.routeSignals ++ [t.epoch + 1]
            chan := if t.state = .tracking then s.chan else told })) ∧
    (s.ticks.owed .supervision ≠ 0 → t.state = .tracking → ∀ v, t.supervision = some v → 1499 ≤ v →
      exec .holdoverEntry s = exec (.millisecondTick .supervision) s ∧
        ∃ u, exec .holdoverEntry s = .next u ∧
          { u with ticks := s.ticks } =
            { s with
              time := { t with state := .holdover, aApp := t.aInt, supervision := some 1500 }
              chan := told }) ∧
    (s.ticks.owed .supervision = 0 ∨ t.state ≠ .tracking ∨ (∀ v, t.supervision = some v → v < 1499) →
      exec .holdoverEntry s = .next s)

/-- R87, R88, R89: SET-TIME, ADJUST-TIME and WRITE-TIMING. The request as a command of its own (log 4) and the answer
kept in a field (log 6) are the model's choices; a failing image changes that answer alone. -/
def Obligations.TimeRequestsSetTheTimeBase : Prop :=
  ∀ s : State,
    let t : TimeBase := s.time
    let c : DeviceCounters := s.probe.counters
    let stepped : Quad → Int → State := fun count fraction =>
      { s with
        time := { t with count := count, fraction := fraction, epoch := t.epoch + 1 }
        probe := { s.probe with counters := { c with steps := min (c.steps + 1) 4294967295 } }
        probeSignals := s.probeSignals ++ [t.epoch + 1]
        routeSignals := s.routeSignals ++ [t.epoch + 1] }
    (∀ v : Quad,
      (t.state = .unset →
        Applies (.setTime v) s
          { s with
            time := { t with state := .set, count := v, fraction := 0 }
            chan := { s.chan with pendingIrq := { s.chan.pendingIrq with timeState := true } } }
          ⟨.done, .none, []⟩) ∧
      (t.state ≠ .unset → Applies (.setTime v) s (stepped v 0) ⟨.done, .none, []⟩)) ∧
    (∀ offset : Quad,
      (t.state = .unset → Applies (.adjustTime offset) s s ⟨.mismatch, .timeUnset, []⟩) ∧
      (t.state ≠ .unset →
        Applies (.adjustTime offset) s
          (stepped (t.count + BitVec.ofInt 64 (max (-1000000000) (min 1000000000 offset.toInt))) t.fraction)
          ⟨.done, .none, []⟩)) ∧
    ∀ image : TimingImage,
      (∀ cause, image.check = some cause →
        Applies (.writeTiming image) s s ⟨.none, cause, []⟩) ∧
      (image.check = none →
        Applies (.writeTiming image) s
          { s with
            time :=
              { t with
                stepLimit := image.stepLimit.setWidth 20
                integral := image.integral.setWidth 3
                proportional := image.proportional.setWidth 3 } }
          ⟨.done, .none, []⟩)

/-- R92, R118, R133: what each receiver does with the oldest step signal it has not taken. -/
def Obligations.StepSignalsInvalidateOldStamps : Prop :=
  ∀ (s : State) (e : Epoch) (rest : List Epoch),
    let c : DeviceCounters := s.probe.counters
    (s.probeSignals = e :: rest →
      exec .stepSignalProbeEngine s = .next
        { s with
          probeSignals := rest
          probe :=
            { s.probe with
              slots := Vector.replicate 32 .free
              backlog := []
              taken := e
              counters :=
                { c with stepDiscards := min (c.stepDiscards + s.probe.backlog.length) 4294967295 } } }) ∧
    (s.routeSignals = e :: rest →
      ∃ t, exec .stepSignalRouteTable s = .next t ∧ t.routeTaken = e ∧ t.routeSignals = rest ∧
        (∀ i : RouteIndex, t.routes[i] =
          { s.routes[i] with contexts := Vector.replicate 4 ⟨false, 0⟩ }) ∧
        { t with routeTaken := s.routeTaken, routeSignals := s.routeSignals, routes := s.routes } = s)

/-! ## Probing -/

/-- R97, R98: the tick at which a probe timer expires; R111: the tick at which the echo timeout of a slot ends.
Each expiry is made in the event of the tick that reaches it, and its row is that tick (log 12, log 13); the ticks
a place has still to take are the model's count (log 11). -/
def Obligations.ProbeTimersExpireAndEchoesTimeOut : Prop :=
  (∀ (k : SlotIndex) (p : PathIndex) (q : Half) (t1 : Quad) (n : Nat) (noted : Half) (s : State),
    s.ticks.owed (.slot k) ≠ 0 → s.probe.slots[k] = .sent p q t1 n noted → n ≤ 1 →
    let x : Path := s.paths[p]
    let c : DeviceCounters := s.probe.counters
    let limit : Nat := max x.config.lossLimit.toNat 1
    let loss : Nat := if x.loss < limit then x.loss + 1 else x.loss
    let freed : State :=
      { s with probe :=
          { s.probe with
            slots := s.probe.slots.set k .free
            counters := { c with timeouts := min (c.timeouts + 1) 4294967295 } } }
    exec (.echoTimeout k) s = exec (.millisecondTick (.slot k)) s ∧
    ∃ u, exec (.millisecondTick (.slot k)) s = .next u ∧
      (x.generation ≠ noted → { u with ticks := s.ticks } = freed) ∧
      (x.generation = noted → x.lost = true ∨ loss < limit →
        { u with ticks := s.ticks } = { freed with paths := s.paths.set p { x with loss := loss } }) ∧
      (x.generation = noted → x.lost = false → limit ≤ loss →
        { u with ticks := s.ticks } =
          { freed with
            paths := s.paths.set p { x with loss := loss, lost := true }
            triggers := s.triggers ++ [.path p] })) ∧
  (∀ (k : SlotIndex) (s : State),
    s.ticks.owed (.slot k) = 0 ∨ (∀ p q t1 n noted, s.probe.slots[k] = .sent p q t1 n noted → 2 ≤ n) →
    exec (.echoTimeout k) s = .next s) ∧
  (∀ (p : PathIndex) (v : Nat) (s : State),
    let x : Path := s.paths[p]
    let c : DeviceCounters := s.probe.counters
    let reloaded : Path :=
      { x with
        timer := some
          (if x.lost = true ∨ s.pathUsable 0 p = false then min (8 * x.config.interval.toNat) 8000
           else x.config.interval.toNat) }
    let deferred : State :=
      { s with
        paths := s.paths.set p reloaded
        probe := { s.probe with counters := { c with deferred := min (c.deferred + 1) 4294967295 } } }
    s.ticks.owed (.path p) ≠ 0 → x.body ≠ .vacant → x.config.interval ≠ 0 → x.timer = some v → v ≤ 1 →
    exec (.probeTimerExpiry p) s = exec (.millisecondTick (.path p)) s ∧
    ∃ u, exec (.millisecondTick (.path p)) s = .next u ∧
      (s.probe.terminalId = 0 ∨ s.time.state = .unset →
        { u with ticks := s.ticks } = { s with paths := s.paths.set p reloaded }) ∧
      (s.probe.terminalId ≠ 0 → s.time.state ≠ .unset →
        (∀ k : SlotIndex, s.probe.slots[k].key? = some (p, x.nextSeq) →
          { u with ticks := s.ticks } = deferred) ∧
        ((∀ k : SlotIndex, s.probe.slots[k] ≠ .free) → { u with ticks := s.ticks } = deferred) ∧
        ∀ k : SlotIndex, (∀ j : SlotIndex, s.probe.slots[j].key? ≠ some (p, x.nextSeq)) →
          s.probe.slots[k] = .free → (∀ j < k, s.probe.slots[j] ≠ .free) →
          { u with ticks := s.ticks } =
            { s with
              paths := s.paths.set p { reloaded with nextSeq := x.nextSeq + 1 }
              probe := { s.probe with slots := s.probe.slots.set k (.queued p x.nextSeq) } })) ∧
  ∀ (p : PathIndex) (s : State),
    s.ticks.owed (.path p) = 0 ∨ s.paths[p].body = .vacant ∨ s.paths[p].config.interval = 0 ∨
      (∀ v, s.paths[p].timer = some v → 2 ≤ v) →
    exec (.probeTimerExpiry p) s = .next s

/-- R102, R103, R104, R108: the transmit arbiter's grant, and the end of a transmission. That a grant while the
transmitter is busy changes nothing is the model's choice (log 3). -/
def Obligations.TransmitArbiterSendsEchoesBeforeProbes : Prop :=
  ∀ s : State,
    let g : ProbeEngine := s.probe
    let c : DeviceCounters := g.counters
    (g.transmitter ≠ none → exec .probeTransmitGrant s = .next s) ∧
    (∀ e rest, g.transmitter = none → g.backlog = e :: rest →
      (s.time.epoch ≠ g.taken →
        exec .probeTransmitGrant s = .next
          { s with probe :=
              { g with
                backlog := rest
                counters := { c with stepDiscards := min (c.stepDiscards + 1) 4294967295 } } }) ∧
      (s.time.epoch = g.taken →
        exec .probeTransmitGrant s = .next
          { s with probe :=
              { g with
                backlog := rest
                transmitter := some
                  (buildFrame 2 g.terminalId e.origin e.port e.pathIndex e.seq e.t1 e.t2 s.time.count)
                counters := { c with echoesSent := min (c.echoesSent + 1) 4294967295 } } })) ∧
    (∀ (k : SlotIndex) (p : PathIndex) (q : Half), g.transmitter = none → g.backlog = [] →
      g.slots[k] = .queued p q → (∀ j < k, g.slots[j].isQueued = false) →
      exec .probeTransmitGrant s = .next
        { s with probe :=
            { g with
              slots := g.slots.set k (.sent p q s.time.count (max s.paths[p].config.echoTimeout.toNat 1)
                s.paths[p].generation)
              transmitter := some
                (buildFrame 1 g.terminalId s.paths[p].config.farId (s.paths[p].config.port.setWidth 8)
                  (BitVec.ofNat 8 p) q s.time.count 0 0)
              counters := { c with probesSent := min (c.probesSent + 1) 4294967295 } } }) ∧
    ∀ bytes, g.transmitter = some bytes →
      exec .frameTransmissionEnd s = .next
        { s with probe := { g with transmitter := none }, sent := s.sent ++ [.frame bytes] }

/-- R183: every frame the part builds is 64 bytes long, its halfwords sum to 0, and it reads back as built. -/
def Obligations.BuiltFramesAreWellFormed : Prop :=
  ∀ (kind origin destination port pathIndex : Byte) (seq : Half) (t1 t2 t3 : Quad),
    let b : List Byte := buildFrame kind origin destination port pathIndex seq t1 t2 t3
    b.length = 64 ∧ halfwordSum b = 0 ∧
      parseFrame b = ⟨kind, origin, destination, pathIndex, seq, t1, t2, t3⟩ ∧ b[3]? = some port

/-- R105, R106, R109: a frame is stamped at its first byte and dealt with, once complete, by the first case
that applies. That a first byte while a frame is being received restamps is the model's choice (log 15). -/
def Obligations.ReceivedFrameIsDealtWithByFirstCase : Prop :=
  ∀ (bytes : List Byte) (port : Byte) (s : State),
    exec .frameFirstByteArrival s = .next
      { s with probe := { s.probe with receiving := some ⟨s.time.count, s.time.epoch⟩ } } ∧
    ∀ a : Arrival, s.probe.receiving = some a →
      let f : ReceivedFrame := parseFrame bytes
      let c : DeviceCounters := s.probe.counters
      let g : ProbeEngine := { s.probe with receiving := none }
      let counting : DeviceCounters → State := fun c' => { s with probe := { g with counters := c' } }
      let up : Nat → Nat := fun n => min (n + 1) 4294967295
      (bytes.length ≠ 64 →
        exec (.probeFrameReceived bytes port) s =
          .next (counting { c with lengthErrors := up c.lengthErrors })) ∧
      (bytes.length = 64 → halfwordSum bytes ≠ 0 ∨ (f.kind ≠ 1 ∧ f.kind ≠ 2) →
        exec (.probeFrameReceived bytes port) s =
          .next (counting { c with checkErrors := up c.checkErrors })) ∧
      (bytes.length = 64 → halfwordSum bytes = 0 → f.kind = 1 ∨ f.kind = 2 →
        f.destination ≠ g.terminalId →
        exec (.probeFrameReceived bytes port) s =
          .next (counting { c with misdirected := up c.misdirected })) ∧
      (bytes.length = 64 → halfwordSum bytes = 0 → f.kind = 1 → f.destination = g.terminalId →
        exec (.probeFrameReceived bytes port) s = .next
          (if f.origin = g.terminalId then counting { c with looped := up c.looped }
           else if s.time.state = .unset ∨ g.terminalId = 0 then counting { c with refused := up c.refused }
           else if a.epoch ≠ g.taken then counting { c with stepDiscards := up c.stepDiscards }
           else if 8 ≤ g.backlog.length then counting { c with backlogDrops := up c.backlogDrops }
           else
            { s with probe :=
                { g with backlog := g.backlog ++ [⟨f.origin, f.pathIndex, f.seq, f.t1, a.stamp, port⟩] } })) ∧
      (bytes.length = 64 → halfwordSum bytes = 0 → f.kind = 2 → f.destination = g.terminalId →
        (a.epoch ≠ g.taken →
          exec (.probeFrameReceived bytes port) s =
            .next (counting { c with stepDiscards := up c.stepDiscards })) ∧
        (a.epoch = g.taken →
          (∀ (k : SlotIndex) p q t1 n v, g.slots[k] = .sent p q t1 n v → q = f.seq →
            p.val ≠ f.pathIndex.toNat) →
          exec (.probeFrameReceived bytes port) s =
            .next (counting { c with unknownEchoes := up c.unknownEchoes })) ∧
        ∀ (k : SlotIndex) p t1 n v, s.slotsSound → a.epoch = g.taken →
          g.slots[k] = .sent p f.seq t1 n v → p.val = f.pathIndex.toNat →
          exec (.probeFrameReceived bytes port) s =
            .next (({ s with probe := g } : State).matchEcho k p t1 f a.stamp))

/-- R110, R113, R117: what a matched echo does to its slot, its path and the counters. That the outer difference of
RTT' is exact, and only the two inner ones are taken modulo 2^64, is the model's reading (log 32). -/
def Obligations.MatchedEchoFreesSlotAndClearsLoss : Prop :=
  ∀ (k : SlotIndex) (p : PathIndex) (t1 t4 : Quad) (f : ReceivedFrame) (s : State),
    let x : Path := s.paths[p]
    let c : DeviceCounters := s.probe.counters
    let rate : Nat := s.minRate x.body
    let rtt : Int := max 0 ((t4 - t1).toInt - (f.t3 - f.t2).toInt)
    let v : Int := max 0 (min 268435455
      (rtt * 8 + x.config.asymmetry.toInt * 16 - (serialization 64 rate : Int) * 16))
    let filtered : Path := if rate = 0 then x else x.filter v.toNat
    let x' : Path :=
      { filtered with
        loss := 0
        lost := false
        timer := if x.lost = true then x.timer.map (fun m => min m x.config.interval.toNat) else x.timer }
    s.matchEcho k p t1 f t4 =
      { s with
        paths := s.paths.set p x'
        probe :=
          { s.probe with
            slots := s.probe.slots.set k .free
            counters :=
              { c with
                echoesMatched := min (c.echoesMatched + 1) 4294967295
                unusableEchoes :=
                  if rate = 0 then min (c.unusableEchoes + 1) 4294967295 else c.unusableEchoes } }
        triggers := s.triggers ++
          if x.lost = true ∨ x'.status ≠ x.status ∨ s.latencyUsed x' ≠ s.latencyUsed x then [.path p] else [] }

/-- R114, R115, R116: a sample starts, restarts or moves the estimate; an accepted one never carries the
estimate past the sample. -/
def Obligations.SampleMovesEstimateTowardsItself : Prop :=
  ∀ (x : Path) (v : Nat), x.estimate ≤ 268435455 → v ≤ 268435455 →
    let d : Int := (v : Int) - x.estimate
    let w : Nat := x.config.rejectWindow.toNat
    let k : Nat := x.config.shift.toNat
    let fresh : Path := { x with estimate := v, status := .settling, accepted := 1, outlier := 0 }
    let y : Path := x.filter v
    (x.status = .none → y = fresh) ∧
    (x.status ≠ .none → w ≠ 0 → w * 16 < d.natAbs →
      y = if x.outlier < 3 then { x with outlier := x.outlier + 1 } else fresh) ∧
    (x.status ≠ .none → w = 0 ∨ d.natAbs ≤ w * 16 →
      (y.estimate : Int) = x.estimate + (2 * d + 2 ^ k) / 2 ^ (k + 1) ∧
        min x.estimate v ≤ y.estimate ∧ y.estimate ≤ max x.estimate v ∧
        y.accepted = min (x.accepted + 1) 8 ∧ y.outlier = 0 ∧
        y.status = (if x.status = .settling ∧ 7 ≤ x.accepted then .steady else x.status) ∧
        { y with
          estimate := x.estimate, status := x.status, accepted := x.accepted, outlier := x.outlier } = x)

/-- R99, R120: the device requests. The request as a command of its own (log 4) and the answer kept in a field (log
6) are the model's choices. -/
def Obligations.DeviceRequestsWriteAndReadTheEngine : Prop :=
  ∀ s : State,
    (∀ image : DeviceImage,
      (4095 < image.lead.toNat → Applies (.writeDevice image) s s ⟨.none, .lead, []⟩) ∧
      (image.lead.toNat ≤ 4095 →
        Applies (.writeDevice image) s
          { s with probe :=
              { s.probe with
                terminalId := image.terminalId
                lead := image.lead.setWidth 12
                slots :=
                  if image.terminalId = s.probe.terminalId then s.probe.slots
                  else Vector.replicate 32 .free } }
          ⟨.done, .none, []⟩)) ∧
    Applies (.readDevice false) s s ⟨.done, .none, s.probe.image⟩ ∧
    Applies (.readDevice true) s
      { s with probe :=
          { s.probe with counters := ⟨0, 0, 0, 0, 0, 0, 0, 0, 0, 0, 0, 0, 0, 0, 0, 0, 0⟩ } }
      ⟨.done, .none, s.probe.image⟩

/-! ## Route Table -/

/-- R128, R129: a trigger marks the non-vacant routes it concerns; the scan recomputes the first marked route
from the service pointer. That any waiting trigger may be taken next (log 18), and that RECOMPUTATION with no route
marked changes nothing (log 3), are the model's choices. -/
def Obligations.TriggersMarkAndScanRecomputes : Prop :=
  ∀ s : State,
    (∀ w ∈ s.triggers, ∃ t, exec (.reRankTrigger w) s = .next t ∧
      (∀ i : RouteIndex,
        (t.routes[i].rerank = true ↔ s.routes[i].rerank = true ∨ (s.routes[i].state ≠ .vacant ∧
          match w with
            | .hop h => ∃ p ∈ s.routes[i].candidates, h ∈ s.paths[p].body.hops
            | .path p => p ∈ s.routes[i].candidates ∨ s.routes[i].fallback = some p
            | .all => True)) ∧
        { t.routes[i] with rerank := s.routes[i].rerank } = s.routes[i]) ∧
      t.triggers = s.triggers.erase w ∧ { t with routes := s.routes, triggers := s.triggers } = s) ∧
    ((∀ i : RouteIndex, s.routes[i].rerank = false) → exec .recomputation s = .next s) ∧
    ∀ k < 32, ∀ i : RouteIndex, i = Fin.ofNat 32 (s.service.val + k) → s.routes[i].rerank = true →
      (∀ j < k, s.routes[(Fin.ofNat 32 (s.service.val + j) : RouteIndex)].rerank = false) →
      exec .recomputation s = .next
        { (s.putRoute i (s.recomputed s.routes[i])) with service := Fin.ofNat 32 (i.val + 1) }

/-- R130, R131: the standing choice is the usable contender with the least latency, ties to the earlier
position, and the state follows from the choice. -/
def Obligations.RecomputationChoosesLeastLatency : Prop :=
  ∀ (s : State) (r : Route),
    let n : Nat := max r.refLength.toNat 1
    let usable : PathIndex → Prop := fun p => s.pathUsable 0 p = true
    let y : Route := s.recomputed r
    (y.state = .dark ↔ y.choice = none) ∧ y.state ≠ .vacant ∧
    (y.choice = none ↔ (∀ p ∈ r.candidates, ¬ usable p) ∧ ∀ p, r.fallback = some p → ¬ usable p) ∧
    (y.state = .dark → y.latency = 0) ∧
    (y.state = .normal → ∃ (i : Nat) (hi : i < r.candidates.length),
      y.choice = some r.candidates[i] ∧ usable r.candidates[i] ∧
        y.latency = s.totalLatency r.candidates[i] n ∧
        (∀ (j : Nat) (hj : j < r.candidates.length), usable r.candidates[j] →
          y.latency ≤ s.totalLatency r.candidates[j] n ∧
            (j < i → y.latency < s.totalLatency r.candidates[j] n)) ∧
        ∀ p, r.fallback = some p → usable p → s.classes[(0 : ClassIndex)].fibreCompetes = true →
          y.latency ≤ s.totalLatency p n) ∧
    (y.state = .fallback → ∃ p, r.fallback = some p ∧ y.choice = some p ∧ usable p ∧
      y.latency = s.totalLatency p n ∧
      ∀ q ∈ r.candidates, usable q →
        s.classes[(0 : ClassIndex)].fibreCompetes = true ∧ y.latency < s.totalLatency q n) ∧
    y.attention = (r.attention || decide (y.choice ≠ r.choice ∨ y.state ≠ r.state)) ∧
    { y with
      state := r.state, choice := r.choice, latency := r.latency, attention := r.attention
      rerank := r.rerank } = { r with rerank := r.rerank } ∧
    y.rerank = false

/-- R127, R136: WRITE-CLASS and COLLECT. The request as a command of its own (log 4) and the answer kept in a field
(log 6) are the model's choices. -/
def Obligations.ClassWriteAndCollect : Prop :=
  ∀ s : State,
    (∀ (c : ClassIndex) (image : ClassImage),
      (∀ cause, image.check = some cause → Applies (.writeClass c image) s s ⟨.none, cause, []⟩) ∧
      (image.check = none → ∃ t, Applies (.writeClass c image) s t ⟨.done, .none, []⟩ ∧
        (∀ d : ClassIndex, t.classes[d] =
          if d = c then
            ⟨decide (image.tolerateFading = 1), decide (image.fibreCompetes = 1),
              decide (image.ordering = 1), image.gap, image.maxHold.setWidth 20⟩
          else s.classes[d]) ∧
        (∀ i : RouteIndex, t.routes[i] =
          { s.routes[i] with
            contexts := s.routes[i].contexts.set c ⟨false, 0⟩
            rerank := s.routes[i].rerank || decide (s.routes[i].state ≠ .vacant) }) ∧
        { t with classes := s.classes, routes := s.routes } = s)) ∧
    (∀ i : HopIndex, s.hops[i].attention = true → (∀ j < i, s.hops[j].attention = false) →
      Applies .collect s
        { s with
          hops := s.hops.set i { s.hops[i] with attention := false }
          attentionCount := s.attentionCount - 1 }
        ⟨.done, .none,
          [1, BitVec.ofNat 8 i, s.hops[i].state.code, 1, s.hops[i].profile.setWidth 8, 0, 0, 0]⟩) ∧
    ((∀ j : HopIndex, s.hops[j].attention = false) →
      (∀ i : RouteIndex, s.routes[i].attention = true → (∀ j < i, s.routes[j].attention = false) →
        Applies .collect s
          { s with
            routes := s.routes.set i { s.routes[i] with attention := false }
            attentionCount := s.attentionCount - 1 }
          ⟨.done, .none,
            [2, BitVec.ofNat 8 i, s.routes[i].state.code, flagByte s.routes[i].choice.isSome,
              BitVec.ofNat 8 ((s.routes[i].choice.map Fin.val).getD 0), 0, 0, 0]⟩) ∧
      ((∀ j : RouteIndex, s.routes[j].attention = false) →
        Applies .collect s s ⟨.mismatch, .nonePending, []⟩))

/-- R137, R138, R139: WRITE-ROUTE rewrites and recomputes the record in one event, or with a failing image changes the
answer alone; RETIRE-ROUTE empties it. The request as a command of its own (log 4) and the answer kept in a field
(log 6) are the model's choices. -/
def Obligations.RouteRequestsRewriteAndRetire : Prop :=
  ∀ (i : RouteIndex) (s : State),
    let r : Route := s.routes[i]
    (∀ (image : RouteImage) (cause : Cause), image.check s = some cause →
      Applies (.writeRoute i image) s s ⟨.none, cause, []⟩) ∧
    (∀ image : RouteImage, image.check s = none →
      Applies (.writeRoute i image) s
        (s.putRoute i (s.recomputed
          { r with
            candidates :=
              (image.candidates.toList.take image.count.toNat).map fun b => Fin.ofNat 128 b.toNat
            fallback :=
              if image.fallbackPresent = 1 then some (Fin.ofNat 128 image.fallback.toNat) else none
            refLength := image.refLength.setWidth 14
            contexts := Vector.replicate 4 ⟨false, 0⟩
            counters := if r.state = .vacant then ⟨0, 0, 0, 0⟩ else r.counters
            attention := r.attention || decide (r.state = .vacant)
            generation := r.generation + 1 }))
        ⟨.done, .none, []⟩) ∧
    Applies (.retireRoute i) s
      (s.putRoute i
        ⟨.vacant, [], none, 0, none, 0, Vector.replicate 4 ⟨false, 0⟩, ⟨0, 0, 0, 0⟩, false, false,
          r.generation + 1⟩)
      ⟨.done, .none, []⟩

/-! ## Steering Port -/

/-- R143, R144, R145, R146: request words in, answer words out. That a word commanded while ready is withheld is
dropped and changes nothing is the model's choice (log 33, log 3). -/
def Obligations.SteeringWordsPassInOrder : Prop :=
  ∀ (w : Word) (s : State),
    let g : SteeringPort := s.steering
    (16 ≤ g.queue.length → exec (.steeringRequestWord w) s = .next s) ∧
    (g.queue.length < 16 → g.request = none →
      exec (.steeringRequestWord w) s = .next { s with steering := { g with request := some w } }) ∧
    (∀ first, g.queue.length < 16 → g.request = some first →
      exec (.steeringRequestWord w) s = .next
        { s with steering :=
            { g with
              request := none
              queue := g.queue ++
                [⟨first.extractLsb' 24 8, Fin.ofNat 32 (first.extractLsb' 16 5).toNat,
                  Fin.ofNat 4 (first.extractLsb' 0 2).toNat,
                  BitVec.ofNat 14 (max (w.extractLsb' 0 14).toNat 1), s.time.count,
                  decide (s.time.state ≠ .unset), s.time.epoch⟩] } }) ∧
    ∀ a k, g.answer = some ⟨a, k⟩ →
      (k < 5 →
        exec .answerWordTaken s = .next
          { s with
            steering := { g with answer := some ⟨a, k + 1⟩ }
            sent := s.sent ++ [.answerWord (a.word k)] }) ∧
      (k = 5 →
        exec .answerWordTaken s = .next
          { s with steering := { g with answer := none }, sent := s.sent ++ [.answerWord (a.word 5)] })

/-- R146 to R157: the computation of the head lookup. The contenders, in order of position, are every usable
candidate, and the fallback where it is usable and fibre competes or no candidate is usable (R150). -/
def Obligations.LookupIsAnsweredByTheRules : Prop :=
  ∀ (s : State) (q : Lookup) (rest : List Lookup),
    s.steering.answer = none → s.steering.queue = q :: rest →
    let r : Route := s.routes[q.site]
    let policy : ClassPolicy := s.classes[q.cls]
    let n : Nat := q.length.toNat
    let usable : List PathIndex := r.candidates.filter fun p => s.pathUsable q.cls p
    let cs : List Contender :=
      usable.map (fun p => ⟨p, s.totalLatency p n, false⟩) ++
        match r.fallback with
        | some p =>
          if s.pathUsable q.cls p = true ∧ (policy.fibreCompetes = true ∨ usable = []) then
            [⟨p, s.totalLatency p n, true⟩]
          else []
        | none => []
    let valid : Bool := q.timeValid && decide (q.epoch = s.time.epoch)
    let t0 : Quad := q.stamp + s.probe.lead.setWidth 64
    let read : Bool := r.contexts[q.cls].valid && decide (s.routeTaken = s.time.epoch)
    let last : Quad := r.contexts[q.cls].last
    let up : Nat → Nat := fun n => min (n + 1) 4294967295
    let u : Contender → Quad := fun c => t0 + BitVec.ofNat 64 c.latency
    let a : Contender → Quad := fun c =>
      if policy.ordering = true ∧ read = true ∧ u c < last + policy.gap.setWidth 64 then
        last + policy.gap.setWidth 64
      else u c
    let answered : Answer → Route → State := fun answer r' =>
      { s with
        routes := s.routes.set q.site r'
        steering := { s.steering with queue := rest, answer := some ⟨answer, 0⟩ } }
    let ok : Contender → Quad → Quad → Quad → Bool → State := fun c departure arrival hold waived =>
      answered
        ⟨q.tag, .ok, !valid, waived, c.fallback, decide (hold ≠ 0), c.path, s.paths[c.path].config.port,
          departure, arrival, hold⟩
        { r with
          counters :=
            { r.counters with
              ok := up r.counters.ok
              fallback := if c.fallback = true then up r.counters.fallback else r.counters.fallback
              waived := if waived = true then up r.counters.waived else r.counters.waived }
          contexts :=
            if valid = true ∧ policy.ordering = true then
              r.contexts.set q.cls
                ⟨true, if read = true ∧ arrival ≤ last then last else arrival⟩
            else r.contexts }
    (r.state = .vacant →
      exec .lookupComputation s = .next
        (answered ⟨q.tag, .noRoute, !valid, false, false, false, 0, 0, 0, 0, 0⟩ r)) ∧
    (r.state ≠ .vacant → cs = [] →
      exec .lookupComputation s = .next
        (answered ⟨q.tag, .noPath, !valid, false, false, false, 0, 0, 0, 0, 0⟩
          { r with counters := { r.counters with noPath := up r.counters.noPath } })) ∧
    (r.state ≠ .vacant → valid = false → ∀ (i : Nat) (hi : i < cs.length),
      (∀ (j : Nat) (hj : j < cs.length),
        cs[i].latency < cs[j].latency ∨ (cs[i].latency = cs[j].latency ∧ i ≤ j)) →
      exec .lookupComputation s = .next (ok cs[i] 0 0 0 false)) ∧
    (r.state ≠ .vacant → valid = true → ∀ (i : Nat) (hi : i < cs.length),
      (∀ (j : Nat) (hj : j < cs.length),
        a cs[i] < a cs[j] ∨ (a cs[i] = a cs[j] ∧
          (a cs[i] - u cs[i] < a cs[j] - u cs[j] ∨
            (a cs[i] - u cs[i] = a cs[j] - u cs[j] ∧ i ≤ j)))) →
      ((a cs[i] - u cs[i]).toNat ≤ policy.maxHold.toNat →
        exec .lookupComputation s = .next
          (ok cs[i] (t0 + (a cs[i] - u cs[i])) (a cs[i]) (a cs[i] - u cs[i]) false)) ∧
      (policy.maxHold.toNat < (a cs[i] - u cs[i]).toNat → ∀ (k : Nat) (hk : k < cs.length),
        (∀ (j : Nat) (hj : j < cs.length),
          u cs[k] < u cs[j] ∨ (u cs[k] = u cs[j] ∧ k ≤ j)) →
        exec .lookupComputation s = .next (ok cs[k] t0 (u cs[k]) 0 true)))

/-- R154, R156: every OK answer names a usable path with no held hop; a time-valid one departs no earlier than
the arrival stamp plus the switch lead, and one that is not waived keeps the order gap. -/
def Obligations.OkAnswersAreUsableTimelyAndOrdered : Prop :=
  ∀ (s t : State) (q : Lookup) (rest : List Lookup) (x : Answer),
    s.steering.answer = none → s.steering.queue = q :: rest →
    exec .lookupComputation s = .next t → t.steering.answer = some ⟨x, 0⟩ → x.code = .ok →
    let policy : ClassPolicy := s.classes[q.cls]
    let old : Context := s.routes[q.site].contexts[q.cls]
    let new : Context := t.routes[q.site].contexts[q.cls]
    (x.path ∈ s.routes[q.site].candidates ∨ s.routes[q.site].fallback = some x.path) ∧
    s.pathUsable q.cls x.path = true ∧ x.port = s.paths[x.path].config.port ∧
    (∀ h ∈ s.paths[x.path].body.hops, s.held h = false ∧ s.hops[h].state ≠ .faded ∧
      s.hops[h].state ≠ .down) ∧
    (x.timeInvalid = true →
      x.departure = 0 ∧ x.arrival = 0 ∧ x.hold = 0 ∧ x.orderWaived = false ∧ x.held = false ∧ new = old) ∧
    (x.timeInvalid = false →
      x.hold.toNat ≤ policy.maxHold.toNat ∧ (x.orderWaived = true → x.hold = 0) ∧
      (q.stamp.toNat + s.probe.lead.toNat + policy.maxHold.toNat < 2 ^ 64 →
        q.stamp.toNat + s.probe.lead.toNat ≤ x.departure.toNat) ∧
      (policy.ordering = true →
        new.valid = true ∧ x.arrival.toNat ≤ new.last.toNat ∧
        (old.valid = true → s.routeTaken = s.time.epoch →
          old.last.toNat ≤ new.last.toNat ∧
          (x.orderWaived = false → old.last.toNat + policy.gap.toNat < 2 ^ 64 →
            old.last.toNat + policy.gap.toNat ≤ x.arrival.toNat))))

/-- R133, R154: only the listed events invalidate a valid ordering context, and no other event lowers its A_last
while the Route Table has taken the current step epoch. -/
def Obligations.OnlyListedEventsInvalidateContexts : Prop :=
  ∀ (c : Instr) (s t : State) (i : RouteIndex) (k : ClassIndex),
    exec c s = .next t → s.routes[i].contexts[k].valid = true →
    c ≠ .powerOnReset → (∀ source, c ≠ .warmReset source) → c ≠ .stepSignalRouteTable →
    (∀ image, c ≠ .writeRoute i image) → (∀ image, c ≠ .writeClass k image) → c ≠ .retireRoute i →
    t.routes[i].contexts[k].valid = true ∧
      (s.routeTaken = s.time.epoch → s.routes[i].contexts[k].last ≤ t.routes[i].contexts[k].last)

/-! ## Maintenance Channel -/

/-- R162 to R167, R181, R188, R189: the control commands, what the window writes do and what the window reads show,
and the endpoint's settings. That an access beyond the 64 bytes of the window is discarded or reads 0 is the model's
choice (log 21). -/
def Obligations.ChannelTakesWindowAndConfigurationAccesses : Prop :=
  (∀ e ∈ ([(.none, 0x00), (.generation, 0x01), (.inUse, 0x02), (.vacant, 0x03), (.levelPlaced, 0x04),
      (.levelBelowFree, 0x05), (.levelFree, 0x06), (.timeUnset, 0x07), (.nonePending, 0x08), (.flags, 0x10),
      (.code, 0x11), (.index, 0x12), (.count, 0x13), (.alignment, 0x14), (.short, 0x18), (.long, 0x19),
      (.fetch, 0x20), (.dataRead, 0x21), (.dataWrite, 0x22), (.doubleJump, 0x28), (.listLength, 0x29),
      (.action, 0x40), (.line, 0x41), (.profile, 0x42), (.threshold, 0x43), (.limit, 0x44), (.delay, 0x45),
      (.kind, 0x48), (.port, 0x49), (.farId, 0x4A), (.interval, 0x4B), (.shift, 0x4C), (.hopCount, 0x4D),
      (.hopIndex, 0x4E), (.hopDuplicate, 0x4F), (.hopVacant, 0x50), (.fibreLatency, 0x51),
      (.fibreRate, 0x52), (.kindInUse, 0x53), (.switch, 0x58), (.maxHold, 0x59), (.candidateCount, 0x5A),
      (.pathIndex, 0x5B), (.candidateDuplicate, 0x5C), (.candidateKind, 0x5D), (.fallbackKind, 0x5E),
      (.length, 0x5F), (.stepLimit, 0x60), (.integral, 0x61), (.proportional, 0x62),
      (.lead, 0x63)] : List (Cause × Byte)), e.1.byte = e.2) ∧
  ∀ s : State,
    let c : Channel := s.chan
    let stateCode : Nat := match c.state with | .idle => 0 | .running => 1 | .halting => 2 | .ended => 3
    let endCode : Nat := match c.record.endKind with
      | .none => 0 | .normal => 1 | .halted => 2 | .requestCheck => 3 | .lengthCheck => 4
      | .accessCheck => 5 | .sequenceCheck => 6
    let conditionCode : Nat := match c.record.lastCondition with
      | .none => 0 | .done => 1 | .mismatch => 2 | .skipped => 3
    let timeCode : Nat := match s.time.state with
      | .unset => 0 | .set => 1 | .tracking => 2 | .holdover => 3
    let ended : Cause → EndKind → State := fun cause kind =>
      { s with chan :=
          { c with
            state := .ended
            refusedStart := false
            record := ⟨kind, cause, c.listAddress, 0, 0, .none⟩
            progress := 0
            afterJump := false
            work := .idle
            pendingIrq := { c.pendingIrq with listEnded := true } } }
    (c.state = .idle → c.listAddress.toNat % 16 = 0 → c.busMaster = true →
      exec .start s = .next
        { s with chan :=
            { c with
              state := .running
              refusedStart := false
              record := ⟨.none, .none, c.listAddress, 0, 0, .none⟩
              progress := 0
              afterJump := false
              work := .fetching c.nextTag c.listAddress 0 false
              nextTag := c.nextTag + 1 } }) ∧
    (c.state = .idle → c.listAddress.toNat % 16 = 0 → c.busMaster = false →
      exec .start s = .next (ended .fetch .accessCheck)) ∧
    (c.state = .idle → c.listAddress.toNat % 16 ≠ 0 →
      exec .start s = .next (ended .alignment .requestCheck)) ∧
    (c.state ≠ .idle → exec .start s = .next { s with chan := { c with refusedStart := true } }) ∧
    exec .halt s = .next
      { s with chan := { c with state := if c.state = .running then .halting else c.state } } ∧
    exec .ack s = .next { s with chan := { c with state := if c.state = .ended then .idle else c.state } } ∧
    exec .channelClear s = .next
      { s with chan :=
          { c with
            state := .idle
            refusedStart := false
            record := ⟨.none, .none, 0, 0, 0, .none⟩
            progress := 0
            work := .idle
            afterJump := false } } ∧
    (∀ v : Quad,
      exec (.windowWrite 0 8 v) s = .next { s with chan := { c with listAddress := v } } ∧
      exec (.windowWrite 0 4 v) s = .next
        { s with chan := { c with listAddress := c.listAddress.extractLsb' 32 32 ++ v.extractLsb' 0 32 } } ∧
      exec (.windowWrite 4 4 v) s = .next
        { s with chan := { c with listAddress := v.extractLsb' 0 32 ++ c.listAddress.extractLsb' 0 32 } } ∧
      exec (.windowWrite 8 4 v) s =
        (match (v.extractLsb' 0 32).toNat with
        | 1 => exec .start s
        | 2 => exec .halt s
        | 3 => exec .channelClear s
        | 4 => exec .ack s
        | _ => .next s) ∧
      exec (.windowWrite 8 8 v) s = exec (.windowWrite 8 4 v) s ∧
      ∀ offset size, ¬ (size = 4 ∧ (offset = 0 ∨ offset = 4 ∨ offset = 8)) →
        ¬ (size = 8 ∧ (offset = 0 ∨ offset = 8)) → exec (.windowWrite offset size v) s = .next s) ∧
    (s.windowRead 0x00 8 = c.listAddress ∧ s.windowRead 0x08 8 = 0 ∧
      (s.windowRead 0x10 8).toNat = stateCode + (if c.refusedStart then 256 else 0) ∧
      s.windowRead 0x18 8 = c.progress ∧
      (s.windowRead 0x20 8).toNat =
        endCode + 256 * c.record.cause.byte.toNat + 65536 * conditionCode +
          4294967296 * (c.record.residual.toNat + 65536 * (c.record.executed % 65536)) ∧
      s.windowRead 0x28 8 = c.record.lastBlock ∧
      (s.windowRead 0x30 8).toNat = s.attentionCount % 4294967296 + 4294967296 * timeCode ∧
      ∀ offset size,
        (size = 4 → offset % 8 = 0 →
          s.windowRead offset 4 = ((s.windowRead offset 8).extractLsb' 0 32).setWidth 64 ∧
          s.windowRead (offset + 4) 4 = ((s.windowRead offset 8).extractLsb' 32 32).setWidth 64) ∧
        (¬ (size = 4 ∧ offset % 4 = 0) → ¬ (size = 8 ∧ offset % 8 = 0) → s.windowRead offset size = 0) ∧
        (0x38 ≤ offset → s.windowRead offset size = 0)) ∧
    (∀ on, exec (.configurationWrite (.busMaster on)) s = .next { s with chan := { c with busMaster := on } } ∧
      exec (.configurationWrite (.messages on)) s = .next { s with chan := { c with messages := on } }) ∧
    ∀ (v : IrqVector) (on : Bool), ∃ t, exec (.configurationWrite (.mask v on)) s = .next t ∧
      (∀ v', t.chan.masks.get v' = if v' = v then on else c.masks.get v') ∧
      { t with chan := { t.chan with masks := c.masks } } = s

/-- R168: a vector's message is sent exactly when its flag is set, messages are enabled and it is not masked. That
the bus-master enable does not matter (log 22), and that the command changes nothing where no message is due
(log 3), are the model's choices. -/
def Obligations.InterruptMessageIsSentWhenUnmasked : Prop :=
  ∀ (v : IrqVector) (s : State),
    (s.chan.pendingIrq.get v = true → s.chan.messages = true → s.chan.masks.get v = false →
      ∃ t, exec (.interruptMessage v) s = .next t ∧ t.sent = s.sent ++ [.message v] ∧
        (∀ v', t.chan.pendingIrq.get v' = if v' = v then false else s.chan.pendingIrq.get v') ∧
        { t with sent := s.sent, chan := { t.chan with pendingIrq := s.chan.pendingIrq } } = s) ∧
    (s.chan.pendingIrq.get v = false ∨ s.chan.messages = false ∨ s.chan.masks.get v = true →
      exec (.interruptMessage v) s = .next s)

/-- R187, R173: the catalogue, the generation each request compares, and the request a block spells, with its write
image read as R191 and R192 lay it out. R169 to R174, R180, R186: a fetched block is checked step by step; the first
check that fails decides. That a completion with another tag changes nothing is the model's choice (log 8); the wait
for the apply, as an event after the fetch's completion, is its reading (log 5). -/
def Obligations.FetchedBlockIsReadAndCheckedInOrder : Prop :=
  catalogue =
    [⟨0x01, .jump, .flow, 0, 0⟩, ⟨0x10, .readHop, .read, 63, 56⟩, ⟨0x11, .writeHop, .write, 63, 24⟩,
      ⟨0x12, .retireHop, .plain, 63, 0⟩, ⟨0x13, .clearHopCounts, .plain, 63, 0⟩,
      ⟨0x20, .readPath, .read, 127, 64⟩, ⟨0x21, .writePath, .write, 127, 32⟩,
      ⟨0x22, .retirePath, .plain, 127, 0⟩, ⟨0x23, .restartEstimate, .plain, 127, 0⟩,
      ⟨0x30, .readRoute, .read, 31, 80⟩, ⟨0x31, .writeRoute, .write, 31, 16⟩,
      ⟨0x32, .retireRoute, .plain, 31, 0⟩, ⟨0x40, .readClass, .read, 3, 16⟩,
      ⟨0x41, .writeClass, .write, 3, 16⟩, ⟨0x42, .writeProfiles, .write, 0, 16⟩,
      ⟨0x43, .readProfiles, .read, 0, 16⟩, ⟨0x50, .placeHold, .write, 7, 8⟩,
      ⟨0x51, .releaseHold, .plain, 7, 0⟩, ⟨0x52, .readHolds, .read, 0, 72⟩,
      ⟨0x60, .setTime, .write, 0, 8⟩, ⟨0x61, .adjustTime, .write, 0, 8⟩, ⟨0x62, .readTime, .read, 0, 32⟩,
      ⟨0x63, .writeTiming, .write, 0, 8⟩, ⟨0x70, .setLine, .write, 7, 8⟩, ⟨0x71, .readLine, .read, 7, 16⟩,
      ⟨0x80, .collect, .read, 0, 8⟩, ⟨0x90, .readDevice, .read, 0, 80⟩,
      ⟨0x91, .writeDevice, .write, 0, 8⟩] ∧
  (∀ (b : Block) (d : BitVec 256) (s : State),
    let n : Nat := b.index.toNat
    let spells : Request → Instr → Prop := fun r i => b.command r d = some i
    let compares : List Request → Option Half → Prop := fun rs g =>
      ∀ r ∈ rs, s.generationOf r b.index = g
    (∀ h : HopIndex, n = h.val →
      spells .readHop (.readHop h) ∧ spells .retireHop (.retireHop h) ∧
      spells .clearHopCounts (.clearHopCounts h) ∧
      spells .writeHop (.writeHop h
        ⟨d.extractLsb' 0 8, d.extractLsb' 8 8, d.extractLsb' 16 16, d.extractLsb' 32 16, d.extractLsb' 48 8,
          d.extractLsb' 56 8, d.extractLsb' 64 16, d.extractLsb' 80 16, d.extractLsb' 96 32,
          d.extractLsb' 128 16⟩) ∧
      compares [.readHop, .writeHop, .retireHop, .clearHopCounts] (some s.hops[h].generation)) ∧
    (∀ p : PathIndex, n = p.val →
      spells .readPath (.readPath p) ∧ spells .retirePath (.retirePath p) ∧
      spells .restartEstimate (.restartEstimate p) ∧
      spells .writePath (.writePath p
        ⟨d.extractLsb' 0 8, d.extractLsb' 8 8, d.extractLsb' 16 8, d.extractLsb' 24 8, d.extractLsb' 32 16,
          d.extractLsb' 48 16, d.extractLsb' 64 8, d.extractLsb' 72 8, d.extractLsb' 80 8,
          d.extractLsb' 96 16, d.extractLsb' 112 16, d.extractLsb' 128 32,
          Vector.ofFn fun j => d.extractLsb' (160 + 8 * j.val) 8⟩) ∧
      compares [.readPath, .writePath, .retirePath, .restartEstimate] (some s.paths[p].generation)) ∧
    (∀ i : RouteIndex, n = i.val →
      spells .readRoute (.readRoute i) ∧ spells .retireRoute (.retireRoute i) ∧
      spells .writeRoute (.writeRoute i
        ⟨d.extractLsb' 0 8, d.extractLsb' 8 8, d.extractLsb' 16 16, d.extractLsb' 32 8,
          Vector.ofFn fun j => d.extractLsb' (64 + 8 * j.val) 8⟩) ∧
      compares [.readRoute, .writeRoute, .retireRoute] (some s.routes[i].generation)) ∧
    (∀ c : ClassIndex, n = c.val →
      spells .readClass (.readClass c) ∧
      spells .writeClass (.writeClass c
        ⟨d.extractLsb' 0 8, d.extractLsb' 8 8, d.extractLsb' 16 8, d.extractLsb' 32 16,
          d.extractLsb' 64 32⟩)) ∧
    (∀ k : LevelIndex, n = k.val →
      spells .placeHold (.placeHold k (d.extractLsb' 0 64)) ∧ spells .releaseHold (.releaseHold k)) ∧
    (∀ l : LineIndex, n = l.val →
      b.command .setLine d =
        if d.extractLsb' 0 8 = 1 then some (.run l)
        else if d.extractLsb' 0 8 = 2 then some (.suspend l)
        else if d.extractLsb' 0 8 = 3 then some (.stop l)
        else none) ∧
    (∀ l : LineIndex, n % 32768 = l.val → spells .readLine (.readLine l (b.index.getLsbD 15))) ∧
    spells .writeProfiles (.writeProfiles (Vector.ofFn fun j => d.extractLsb' (16 * j.val) 16)) ∧
    spells .readProfiles .readProfiles ∧ spells .readHolds .readHolds ∧
    spells .setTime (.setTime (d.extractLsb' 0 64)) ∧
    spells .adjustTime (.adjustTime (d.extractLsb' 0 64)) ∧ spells .readTime .readTime ∧
    spells .writeTiming (.writeTiming ⟨d.extractLsb' 0 32, d.extractLsb' 32 8, d.extractLsb' 40 8⟩) ∧
    spells .collect .collect ∧ spells .readDevice (.readDevice (b.index.getLsbD 15)) ∧
    spells .writeDevice (.writeDevice ⟨d.extractLsb' 0 8, d.extractLsb' 16 16⟩) ∧
    spells .jump (.jump b.dataAddress) ∧
    compares
      [.jump, .readClass, .writeClass, .writeProfiles, .readProfiles, .placeHold, .releaseHold, .readHolds,
        .setTime, .adjustTime, .readTime, .writeTiming, .setLine, .readLine, .collect, .readDevice,
        .writeDevice] none) ∧
  ∀ (s : State) (tag : Nat) (address : Quad) (ticks : Nat),
    s.chan.work = .fetching tag address ticks false →
    let c : Channel := s.chan
    let ends : EndKind → Cause → Host.Outcome State Fault Refusal := fun kind cause =>
      .next
        { s with chan :=
            { c with
              state := .ended
              work := .idle
              record :=
                { c.record with
                  endKind := kind, cause := cause, lastBlock := address, residual := 0
                  lastCondition := .none }
              pendingIrq := { c.pendingIrq with listEnded := true } } }
    exec (.blockFetchComplete tag none) s = ends .accessCheck .fetch ∧
    (∀ other block, other ≠ tag → exec (.blockFetchComplete other block) s = .next s) ∧
    ∀ w : BitVec 128,
      let b : Block :=
        ⟨address, w.extractLsb' 0 8, w.extractLsb' 8 8, w.extractLsb' 16 16, w.extractLsb' 32 16,
          w.extractLsb' 48 16, w.extractLsb' 64 64, 0⟩
      let taken : Host.Outcome State Fault Refusal := exec (.blockFetchComplete tag (some w)) s
      (b.flags.extractLsb' 5 3 ≠ 0 → taken = ends .requestCheck .flags) ∧
      (b.flags.extractLsb' 5 3 = 0 → (∀ row ∈ catalogue, row.code ≠ b.code) →
        taken = ends .requestCheck .code) ∧
      ∀ row ∈ catalogue, row.code = b.code → b.flags.extractLsb' 5 3 = 0 →
        let data : Prop := row.cls = .write ∨ row.cls = .read
        let index : Nat :=
          if row.request = .readLine ∨ row.request = .readDevice then b.index.toNat % 32768
          else b.index.toNat
        let slen : Bool := b.flags.getLsbD 3
        let count : Nat := b.count.toNat
        let b' : Block := { b with residual := if data then BitVec.ofNat 16 (count - row.size) else 0 }
        (row.request = .jump → c.afterJump = true → taken = ends .sequenceCheck .doubleJump) ∧
        (¬ (row.request = .jump ∧ c.afterJump = true) →
          (row.indexMax < index → taken = ends .requestCheck .index) ∧
          (index ≤ row.indexMax →
            (data → count = 0 → taken = ends .requestCheck .count) ∧
            (¬ (data ∧ count = 0) →
              ((data ∧ b.dataAddress.toNat % 8 ≠ 0) ∨
                  (row.request = .jump ∧ b.dataAddress.toNat % 16 ≠ 0) →
                taken = ends .requestCheck .alignment) ∧
              (¬ ((data ∧ b.dataAddress.toNat % 8 ≠ 0) ∨
                  (row.request = .jump ∧ b.dataAddress.toNat % 16 ≠ 0)) →
                let stale : Prop := b.flags.getLsbD 2 = true ∧
                  ∃ g, s.generationOf row.request b.index = some g ∧ g ≠ b.generation
                (stale → taken = .next (s.reachCondition b .mismatch .generation)) ∧
                (¬ stale →
                  (data → row.size < count → slen = false → taken = ends .lengthCheck .long) ∧
                  (data → count < row.size → slen = false ∨ row.cls = .write →
                    taken = ends .lengthCheck .short) ∧
                  (data → count = row.size ∨ (row.size < count ∧ slen = true) ∨
                      (count < row.size ∧ slen = true ∧ row.cls = .read) →
                    (row.cls = .write → c.busMaster = false → taken = ends .accessCheck .dataRead) ∧
                    (row.cls = .write → c.busMaster = true →
                      taken = .next
                        { s with chan :=
                            { c with work := .reading c.nextTag b' 0, nextTag := c.nextTag + 1 } }) ∧
                    (row.cls = .read → ∃ i, b'.command row.request 0 = some i ∧
                      taken = .next { s with chan := { c with work := .applying b' i } })) ∧
                  (¬ data → ∃ i, b'.command row.request 0 = some i ∧
                    taken = .next { s with chan := { c with work := .applying b' i } }))))))

/-- R176 to R179: a block that reaches its condition sets the record, gives its note, and then chains, skips
or ends the list. -/
def Obligations.ConditionChainsSkipsOrEnds : Prop :=
  ∀ (b : Block) (condition : Condition) (cause : Cause) (s : State),
    let c : Channel := s.chan
    let t : State := s.reachCondition b condition cause
    let note : Bool := b.flags.getLsbD 4
    let chain : Bool := b.flags.getLsbD 0
    let skip : Bool := b.flags.getLsbD 1 && decide (condition = .mismatch)
    let next : Quad := if b.code = 1 then b.dataAddress else b.address + 16
    let record : Completion :=
      { c.record with
        lastCondition := condition, cause := cause, residual := b.residual
        executed := c.record.executed + 1 }
    t.chan.afterJump = decide (b.code = 1) ∧
    t.chan.progress = (if note = true then b.address else c.progress) ∧
    t.chan.pendingIrq.progressNote = (c.pendingIrq.progressNote || note) ∧
    t.chan.record.executed = c.record.executed + 1 ∧
    (chain = false →
      t.chan.state = .ended ∧ t.chan.work = .idle ∧ t.chan.pendingIrq.listEnded = true ∧
        t.chan.record = { record with endKind := .normal }) ∧
    (chain = true → c.state = .halting →
      t.chan.state = .ended ∧ t.chan.work = .idle ∧ t.chan.pendingIrq.listEnded = true ∧
        t.chan.record = { record with endKind := .halted }) ∧
    (chain = true → c.state ≠ .halting → skip = true → c.busMaster = true →
      t.chan.state = c.state ∧ t.chan.work = .fetching c.nextTag (b.address + 16) 0 true ∧
        t.chan.record = record) ∧
    (chain = true → c.state ≠ .halting → skip = false → 1024 ≤ c.record.executed + 1 →
      t.chan.state = .ended ∧ t.chan.work = .idle ∧ t.chan.pendingIrq.listEnded = true ∧
        t.chan.record =
          ⟨.sequenceCheck, .listLength, next, 0, c.record.executed + 1, .none⟩) ∧
    (chain = true → c.state ≠ .halting → skip = false → c.record.executed + 1 < 1024 → c.busMaster = true →
      t.chan.state = c.state ∧ t.chan.work = .fetching c.nextTag next 0 false ∧
        t.chan.record = { record with lastBlock := next }) ∧
    (chain = true → c.state ≠ .halting → c.busMaster = false →
      (skip = true ∨ c.record.executed + 1 < 1024) →
      t.chan.state = .ended ∧ t.chan.work = .idle ∧ t.chan.pendingIrq.listEnded = true ∧
        t.chan.record =
          ⟨.accessCheck, .fetch, if skip = true then b.address + 16 else next, 0, c.record.executed + 1,
            .none⟩) ∧
    { t with chan := s.chan } = s

/-- R14, R176: the apply of a request that the block in execution waits for settles the block: a failed validation
ends the list, an image goes to be written, every other answer is its condition. For every request that is applied
outside the hop update arbiter, the state and the answer are those of the same request taken while no block waits.
The apply as an event of its own (log 5), its answer as a field (log 6), and a JUMP that no block waits for (log 4)
are the model's. -/
def Obligations.ApplySettlesTheWaitingBlock : Prop :=
  (∀ (c : Instr) (s : State) (b : Block), directRequest c = true → s.chan.work = .applying b c →
    ∃ u, exec c { s with chan := { s.chan with work := .idle } } = .next u ∧
      exec c s = .next
        (State.finishApply b u.reply { u with chan := { u.chan with work := .applying b c } })) ∧
  (∀ (b : Block) (r : Reply) (s : State),
    (r.condition = .none → s.finishApply b r =
      { s with chan :=
          { s.chan with
            state := .ended
            work := .idle
            record := ⟨.requestCheck, r.cause, b.address, 0, s.chan.record.executed, .none⟩
            pendingIrq := { s.chan.pendingIrq with listEnded := true } } }) ∧
    (r.condition ≠ .none → r.image = [] → s.finishApply b r = s.reachCondition b r.condition r.cause) ∧
    (r.condition ≠ .none → r.image ≠ [] → s.finishApply b r =
      { s with chan :=
          { s.chan with work := .writing b (r.image.take b.count.toNat) b.dataAddress } })) ∧
  ∀ (s : State) (b : Block),
    (∀ target, s.chan.work = .applying b (.jump target) →
      exec (.jump target) s = .next ((s.setReply ⟨.done, .none, []⟩).reachCondition b .done .none)) ∧
    (∀ target, (∀ b', s.chan.work ≠ .applying b' (.jump target)) →
      exec (.jump target) s = .next { s with reply := ⟨.done, .none, []⟩ }) ∧
    (∀ v, s.chan.work = .applying b (.adjustTime v) → s.time.state = .unset →
      exec (.adjustTime v) s = .next
        ((s.setReply ⟨.mismatch, .timeUnset, []⟩).reachCondition b .mismatch .timeUnset)) ∧
    (s.chan.work = .applying b .readTime →
      exec .readTime s = .next
        { s with
          reply := ⟨.done, .none, s.time.image⟩
          chan := { s.chan with
            work := .writing b (s.time.image.take b.count.toNat) b.dataAddress } }) ∧
    ∀ image cause, s.chan.work = .applying b (.writeTiming image) → image.check = some cause →
      exec (.writeTiming image) s = .next
        { s with
          reply := ⟨.none, cause, []⟩
          chan :=
            { s.chan with
              state := .ended
              work := .idle
              record := ⟨.requestCheck, cause, b.address, 0, s.chan.record.executed, .none⟩
              pendingIrq := { s.chan.pendingIrq with listEnded := true } } }

/-- R3, R169, R172, R175, R176, R178: data reads, skipped blocks, read timeouts and posted image writes. The tags of
reads (log 8), one completion for a whole image (log 16) and the size of each posted write (log 17) are the model's
operands. That the apply is waited for is its reading (log 5); that a read fails on its 50th tick (log 28), and that
the timeout's row is that tick, among the ticks still to be taken (log 11, log 13), are its choices. -/
def Obligations.ReadsAndImageWritesGoOnWithTheBlock : Prop :=
  ∀ s : State,
    let c : Channel := s.chan
    let ended : EndKind → Cause → Quad → State := fun kind cause address =>
      { s with chan :=
          { c with
            state := .ended
            work := .idle
            record := ⟨kind, cause, address, 0, c.record.executed, .none⟩
            pendingIrq := { c.pendingIrq with listEnded := true } } }
    let ends : EndKind → Cause → Quad → Host.Outcome State Fault Refusal := fun kind cause address =>
      .next (ended kind cause address)
    let timesOut : Cause → Quad → Prop := fun cause address =>
      exec .busMasterReadTimeout s = exec (.millisecondTick .channel) s ∧
      ∃ u, exec .busMasterReadTimeout s = .next u ∧
        { u with ticks := s.ticks } = ended .accessCheck cause address
    (∀ tag b ticks, c.work = .reading tag b ticks →
      exec (.dataReadComplete tag none) s = ends .accessCheck .dataRead b.address ∧
      (s.ticks.owed .channel ≠ 0 → 49 ≤ ticks → timesOut .dataRead b.address) ∧
      (s.ticks.owed .channel = 0 ∨ ticks < 49 → exec .busMasterReadTimeout s = .next s) ∧
      (∀ d : BitVec 256, b.code = 0x70 →
        d.extractLsb' 0 8 ≠ 1 → d.extractLsb' 0 8 ≠ 2 → d.extractLsb' 0 8 ≠ 3 →
        exec (.dataReadComplete tag (some d)) s = ends .requestCheck .action b.address) ∧
      ∀ (d : BitVec 256) (row : CatalogueRow) (i : Instr),
        catalogueRow b.code = some row → b.command row.request d = some i →
        (∀ cause, contentFault i s = some cause →
          exec (.dataReadComplete tag (some d)) s = ends .requestCheck cause b.address) ∧
        (contentFault i s = none →
          exec (.dataReadComplete tag (some d)) s = .next
            { s with chan := { c with work := .applying b i } })) ∧
    (∀ tag address ticks, c.work = .fetching tag address ticks true →
      exec (.skippedBlockFetchComplete tag none) s = ends .accessCheck .fetch address ∧
      ∀ w : BitVec 128,
        let record : Completion :=
          { c.record with lastBlock := address, lastCondition := .skipped, cause := .none, residual := 0 }
        let finished : EndKind → Host.Outcome State Fault Refusal := fun kind =>
          .next
            { s with chan :=
                { c with
                  state := .ended
                  work := .idle
                  record := { record with endKind := kind }
                  pendingIrq := { c.pendingIrq with listEnded := true } } }
        (w.getLsbD 8 = false → exec (.skippedBlockFetchComplete tag (some w)) s = finished .normal) ∧
        (w.getLsbD 8 = true → c.state = .halting →
          exec (.skippedBlockFetchComplete tag (some w)) s = finished .halted) ∧
        (w.getLsbD 8 = true → c.state ≠ .halting → c.busMaster = true → c.record.executed < 1024 →
          exec (.skippedBlockFetchComplete tag (some w)) s = .next
            { s with chan :=
                { c with
                  work := .fetching c.nextTag (address + 16) 0 false
                  nextTag := c.nextTag + 1
                  record := { record with lastBlock := address + 16 } } }) ∧
        (w.getLsbD 8 = true → c.state ≠ .halting → 1024 ≤ c.record.executed →
          exec (.skippedBlockFetchComplete tag (some w)) s =
            ends .sequenceCheck .listLength (address + 16)) ∧
        (w.getLsbD 8 = true → c.state ≠ .halting → c.busMaster = false → c.record.executed < 1024 →
          exec (.skippedBlockFetchComplete tag (some w)) s = ends .accessCheck .fetch (address + 16))) ∧
    (∀ tag address ticks skipped, c.work = .fetching tag address ticks skipped →
      (s.ticks.owed .channel ≠ 0 → 49 ≤ ticks → timesOut .fetch address) ∧
      (s.ticks.owed .channel = 0 ∨ ticks < 49 → exec .busMasterReadTimeout s = .next s)) ∧
    ∀ b left next n, c.work = .writing b left next → n ≠ 0 →
      (c.busMaster = false → exec (.imageWriteIssued n) s = ends .accessCheck .dataWrite b.address) ∧
      (c.busMaster = true → n < left.length →
        exec (.imageWriteIssued n) s = .next
          { s with
            sent := s.sent ++ [.hostWrite next (left.take n)]
            chan := { c with work := .writing b (left.drop n) (next + BitVec.ofNat 64 n) } }) ∧
      (c.busMaster = true → left.length ≤ n →
        exec (.imageWriteIssued n) s = .next
          (({ s with sent := s.sent ++ [.hostWrite next left] } : State).reachCondition b .done .none))

/-! ## What every step keeps -/

/-- R135: every step keeps the attention count equal to the number of attention flags set. -/
def Obligations.StepKeepsAttentionCount : Prop :=
  ∀ s t : State, s.attentionSound → step s = .next t → t.attentionSound

/-- R21, R26, R27, R31, R44, R48: every step keeps the hop records and the nesting of the hold levels sound. -/
def Obligations.StepKeepsHopsAndHoldsSound : Prop :=
  ∀ s t : State, s.hopsSound ∧ s.holdsSound → step s = .next t → t.hopsSound ∧ t.holdsSound

/-- R56, R57, R97, R100, R116, R124, R125, R131: every step keeps the path records, the probe slots and the
routes sound. -/
def Obligations.StepKeepsPathsSlotsAndRoutesSound : Prop :=
  ∀ s t : State, s.pathsSound ∧ s.slotsSound ∧ s.routesSound → step s = .next t →
    t.pathsSound ∧ t.slotsSound ∧ t.routesSound

/-- R75 to R80, R107, R145, R146: every step keeps the Time Base and the queues within their bounds. -/
def Obligations.StepKeepsTimeAndQueuesSound : Prop :=
  ∀ s t : State, s.time.sound ∧ s.queuesSound → step s = .next t → t.time.sound ∧ t.queuesSound

/-- 9.2, R172, R180: every step keeps the channel state, its work and the completion record in step. -/
def Obligations.StepKeepsChannelSound : Prop :=
  ∀ s t : State, s.chan.sound → step s = .next t → t.chan.sound

/-- The state after reset is sound. -/
def Obligations.ResetIsSound : Prop := State.reset.Sound
end

