-- ==== Sys2Proof/Laws/Arithmetic.lean ====
section
/-! SUPPORT. The arithmetic helpers: what the rounded shift, the saturating increment, the clamp and the
rounded-up quotient can answer, and the lengths of byte strings. -/

namespace Sys2Proof.Machine

/-- The rounded shift rounds x / 2^k to the nearest, halves toward plus infinity (00_scope.md, "Rounding"). -/
theorem roundedShift_eq (x : Int) (k : Nat) : roundedShift x k = (2 * x + 2 ^ k) / 2 ^ (k + 1) := by
  cases k with
  | zero => simp [roundedShift]; omega
  | succ k =>
    simp only [roundedShift]
    have e1 : (2 : Int) ^ (k + 1) = 2 ^ k * 2 := pow_succ 2 k
    have e2 : (2 : Int) ^ (k + 1 + 1) = 2 ^ k * 2 * 2 := by rw [pow_succ, e1]
    have hp : (0 : Int) < 2 ^ k := by positivity
    rw [e2, e1]
    have h1 : x / (2 ^ k * 2) = x / 2 ^ k / 2 := by rw [Int.ediv_ediv_of_nonneg hp.le]
    have h2 : (2 * x + 2 ^ k * 2) / (2 ^ k * 2 * 2) = (x / 2 ^ k + 1) / 2 := by
      rw [show (2 * x + 2 ^ k * 2 : Int) = (x + 2 ^ k) * 2 by ring,
        Int.mul_ediv_mul_of_pos_left _ _ (by norm_num), ← Int.ediv_ediv_of_nonneg hp.le,
        show x + 2 ^ k = x + 2 ^ k * 1 by ring, Int.add_mul_ediv_left _ _ hp.ne']
    rw [h1, h2]
    omega

/-- A rounded shift of a value that is 0 or more lies between 0 and the value. -/
theorem roundedShift_nonneg {x : Int} (k : Nat) (h : 0 ≤ x) :
    0 ≤ roundedShift x k ∧ roundedShift x k ≤ x := by
  rw [roundedShift_eq, pow_succ]
  have hp : (0 : Int) < 2 ^ k := by positivity
  constructor
  · positivity
  · have : (2 * x + 2 ^ k) / (2 ^ k * 2) < x + 1 := Int.ediv_lt_of_lt_mul (by positivity) (by nlinarith)
    omega

/-- A rounded shift of a value that is 0 or less lies between the value and 0. -/
theorem roundedShift_nonpos {x : Int} (k : Nat) (h : x ≤ 0) :
    x ≤ roundedShift x k ∧ roundedShift x k ≤ 0 := by
  rw [roundedShift_eq, pow_succ]
  have hp : (0 : Int) < 2 ^ k := by positivity
  constructor
  · apply Int.le_ediv_of_mul_le (by positivity)
    nlinarith
  · have : (2 * x + 2 ^ k) / (2 ^ k * 2) < 1 := Int.ediv_lt_of_lt_mul (by positivity) (by nlinarith)
    omega

/-- A saturating increment never passes the largest value. -/
theorem satInc_le (largest n : Nat) : satInc largest n ≤ largest := min_le_right _ _

/-- The effective value is at least 1. -/
theorem one_le_effective (n : Nat) : 1 ≤ effective n := le_max_right _ _

/-- A clamped value lies within its bounds. -/
theorem clamp_bounds {lo hi : Int} (h : lo ≤ hi) (x : Int) : lo ≤ clamp lo hi x ∧ clamp lo hi x ≤ hi :=
  ⟨le_max_left _ _, max_le h (min_le_left _ _)⟩

/-- A value within the bounds is not changed by the clamp. -/
theorem clamp_eq {lo hi x : Int} (h1 : lo ≤ x) (h2 : x ≤ hi) : clamp lo hi x = x := by
  simp [clamp, h1, h2]

/-- The rounded-up quotient is the least one whose product reaches the dividend. -/
theorem divUp_spec (a : Nat) {b : Nat} (hb : 1 ≤ b) : a ≤ divUp a b * b ∧ divUp a b * b < a + b := by
  unfold divUp
  have h1 := Nat.div_add_mod (a + b - 1) b
  have h2 := Nat.mod_lt (a + b - 1) hb
  rw [mul_comm] at h1
  omega

/-- `n` little-endian bytes are `n` bytes. -/
@[simp] theorem leBytes_length (n x : Nat) : (leBytes n x).length = n := by
  induction n generalizing x with
  | zero => rfl
  | succ n ih => simp [leBytes, ih]

/-- `n` big-endian bytes are `n` bytes. -/
@[simp] theorem beBytes_length (n x : Nat) : (beBytes n x).length = n := by simp [beBytes]

end Sys2Proof.Machine
end

