-- ==== Sys2Proof/Laws/Catalogue.lean ====
section
/-! SUPPORT. Facts about the request catalogue (R187): its codes are distinct, and what its classes say. -/

namespace Sys2Proof.Machine

/-- Every row is the row of its code. -/
theorem catalogueRow_of_mem : ∀ row ∈ catalogue, catalogueRow row.code = some row := by decide

/-- A row that a code finds is a row of the catalogue with that code. -/
theorem mem_of_catalogueRow {code : Byte} {row : CatalogueRow} (h : catalogueRow code = some row) :
    row ∈ catalogue ∧ row.code = code :=
  ⟨List.mem_of_find?_eq_some h, by simpa using List.find?_some h⟩

/-- A code no row has is not in the catalogue. -/
theorem catalogueRow_eq_none {code : Byte} (h : ∀ row ∈ catalogue, row.code ≠ code) :
    catalogueRow code = none := by
  simp only [catalogueRow, List.find?_eq_none]
  intro row hr
  simpa using h row hr

/-- JUMP is the one flow request (R170). -/
theorem catalogue_flow : ∀ row ∈ catalogue, (row.cls = .flow ↔ row.request = .jump) := by decide

/-- READ-LINE and READ-DEVICE carry the zero option (R16, R120). -/
theorem catalogue_zeroOption : ∀ row ∈ catalogue,
    (row.request.hasZeroOption = true ↔ row.request = .readLine ∨ row.request = .readDevice) := by decide

/-- A request of class write or read has an image of at least 8 bytes; the others have none (R170, R187). -/
theorem catalogue_size : ∀ row ∈ catalogue,
    (if row.cls = .write ∨ row.cls = .read then 8 ≤ row.size else row.size = 0) := by decide

/-- Every request but SET-LINE asks for an apply whatever its image. -/
theorem command_isSome (b : Block) {r : Request} (d : BitVec 256) (h : r ≠ .setLine) :
    ∃ i, b.command r d = some i := by
  cases r <;> first | exact ⟨_, rfl⟩ | exact absurd rfl h

end Sys2Proof.Machine
end

