-- ==== Sys2Proof/Laws/Choice.lean ====
section
/-! SUPPORT. What choosing the best of a list can answer: the earliest element of least key. The standing choice
(R130), the bounded and the unbounded choice (R152, R153) and the choice of a TIME-INVALID lookup (R155) are all
of this form. -/

namespace Sys2Proof.Machine

open Sys2Proof

theorem firstBest_eq_none {α : Type} {better : α → α → Bool} {l : List α} :
    firstBest better l = none ↔ l = [] := by
  cases l with
  | nil => simp [firstBest]
  | cons x rest =>
    simp only [firstBest, reduceCtorEq, iff_false]
    split
    · simp
    · split <;> simp

theorem firstBest_isSome {α : Type} {better : α → α → Bool} {l : List α} (h : l ≠ []) :
    ∃ x, firstBest better l = some x := by
  cases e : firstBest better l with
  | none => exact absurd (firstBest_eq_none.mp e) h
  | some x => exact ⟨x, rfl⟩

/-- The chosen element has the least key, and every element before it a greater one. -/
theorem firstBest_spec {α : Type} {better : α → α → Bool} {key : α → Nat}
    (hk : ∀ a b, better a b = decide (key a < key b)) {l : List α} {x : α} (h : firstBest better l = some x) :
    ∃ (i : Nat) (hi : i < l.length), l[i] = x ∧
      ∀ (j : Nat) (hj : j < l.length), key x ≤ key l[j] ∧ (j < i → key x < key l[j]) := by
  induction l generalizing x with
  | nil => simp [firstBest] at h
  | cons a rest ih =>
    simp only [firstBest] at h
    split at h
    · rename_i e
      rw [firstBest_eq_none] at e
      subst e
      injection h with h
      subst h
      exact ⟨0, by simp, rfl, fun j hj => by
        have : j = 0 := by simpa using hj
        subst this
        simp⟩
    · rename_i y e
      obtain ⟨i, hi, hx, hall⟩ := ih e
      split at h <;> injection h with h <;> subst h
      · rename_i hlt
        rw [hk] at hlt
        refine ⟨i + 1, by simpa using hi, by simpa using hx, fun j hj => ?_⟩
        cases j with
        | zero => exact ⟨le_of_lt (by simpa using hlt), fun _ => by simpa using hlt⟩
        | succ j =>
          have := hall j (by simpa using hj)
          exact ⟨by simpa using this.1, fun k => by simpa using this.2 (by omega)⟩
      · rename_i hge
        rw [hk] at hge
        have hge' : key a ≤ key y := by simpa using hge
        refine ⟨0, by simp, rfl, fun j hj => ⟨?_, by omega⟩⟩
        cases j with
        | zero => simp
        | succ j => exact le_trans hge' (by simpa using (hall j (by simpa using hj)).1)

/-- The earliest element of least key is the one chosen. -/
theorem firstBest_unique {α : Type} {better : α → α → Bool} {key : α → Nat}
    (hk : ∀ a b, better a b = decide (key a < key b)) {l : List α} {i : Nat} (hi : i < l.length)
    (h : ∀ (j : Nat) (hj : j < l.length), key l[i] < key l[j] ∨ (key l[i] = key l[j] ∧ i ≤ j)) :
    firstBest better l = some l[i] := by
  obtain ⟨x, hx⟩ := firstBest_isSome (better := better) (l := l) (by
    intro e
    subst e
    simp at hi)
  obtain ⟨k, hk', rfl, hall⟩ := firstBest_spec hk hx
  rw [hx]
  have h1 := h k hk'
  have h2 := hall i hi
  have : i = k := by
    rcases Nat.lt_trichotomy i k with c | c | c
    · exact absurd (h2.2 c) (by omega)
    · exact c
    · omega
  subst this
  rfl

/-- The order of unbounded arrivals, by a key (R153). -/
theorem earlier_key (a b : Offer) : a.earlier b = decide (a.unbounded.toNat < b.unbounded.toNat) := rfl

/-- The order of bounded arrivals and holds, by one key (R152). -/
theorem beats_key (a b : Offer) :
    a.beats b = decide
      (a.bounded.toNat * 2 ^ 64 + a.hold.toNat < b.bounded.toNat * 2 ^ 64 + b.hold.toNat) := by
  have ha := a.hold.isLt
  have hb := b.hold.isLt
  unfold Offer.beats
  rw [Bool.eq_iff_iff]
  simp only [Bool.or_eq_true, Bool.and_eq_true, decide_eq_true_eq, BitVec.lt_def, ← BitVec.toNat_inj]
  omega

end Sys2Proof.Machine
end

