-- ==== Sys2Proof/Laws/State.lean ====
section
/-! SUPPORT. What each named update of State does to each field: one lemma per field per update. -/

namespace Sys2Proof.Machine

/-! ### setLine -/

@[simp] theorem State.setLine_pending (l : LineIndex) (x : Line) (s : State) :
    (s.setLine l x).pending = s.pending := rfl

@[simp] theorem State.setLine_lines (l : LineIndex) (x : Line) (s : State) :
    (s.setLine l x).lines = s.lines.set l x := rfl

@[simp] theorem State.setLine_arbiter (l : LineIndex) (x : Line) (s : State) :
    (s.setLine l x).arbiter = s.arbiter := rfl

@[simp] theorem State.setLine_hops (l : LineIndex) (x : Line) (s : State) :
    (s.setLine l x).hops = s.hops := rfl

@[simp] theorem State.setLine_holds (l : LineIndex) (x : Line) (s : State) :
    (s.setLine l x).holds = s.holds := rfl

@[simp] theorem State.setLine_paths (l : LineIndex) (x : Line) (s : State) :
    (s.setLine l x).paths = s.paths := rfl

@[simp] theorem State.setLine_profiles (l : LineIndex) (x : Line) (s : State) :
    (s.setLine l x).profiles = s.profiles := rfl

@[simp] theorem State.setLine_time (l : LineIndex) (x : Line) (s : State) :
    (s.setLine l x).time = s.time := rfl

@[simp] theorem State.setLine_ticks (l : LineIndex) (x : Line) (s : State) :
    (s.setLine l x).ticks = s.ticks := rfl

@[simp] theorem State.setLine_probeSignals (l : LineIndex) (x : Line) (s : State) :
    (s.setLine l x).probeSignals = s.probeSignals := rfl

@[simp] theorem State.setLine_routeSignals (l : LineIndex) (x : Line) (s : State) :
    (s.setLine l x).routeSignals = s.routeSignals := rfl

@[simp] theorem State.setLine_probe (l : LineIndex) (x : Line) (s : State) :
    (s.setLine l x).probe = s.probe := rfl

@[simp] theorem State.setLine_routes (l : LineIndex) (x : Line) (s : State) :
    (s.setLine l x).routes = s.routes := rfl

@[simp] theorem State.setLine_classes (l : LineIndex) (x : Line) (s : State) :
    (s.setLine l x).classes = s.classes := rfl

@[simp] theorem State.setLine_service (l : LineIndex) (x : Line) (s : State) :
    (s.setLine l x).service = s.service := rfl

@[simp] theorem State.setLine_routeTaken (l : LineIndex) (x : Line) (s : State) :
    (s.setLine l x).routeTaken = s.routeTaken := rfl

@[simp] theorem State.setLine_attentionCount (l : LineIndex) (x : Line) (s : State) :
    (s.setLine l x).attentionCount = s.attentionCount := rfl

@[simp] theorem State.setLine_triggers (l : LineIndex) (x : Line) (s : State) :
    (s.setLine l x).triggers = s.triggers := rfl

@[simp] theorem State.setLine_steering (l : LineIndex) (x : Line) (s : State) :
    (s.setLine l x).steering = s.steering := rfl

@[simp] theorem State.setLine_chan (l : LineIndex) (x : Line) (s : State) :
    (s.setLine l x).chan = s.chan := rfl

@[simp] theorem State.setLine_reply (l : LineIndex) (x : Line) (s : State) :
    (s.setLine l x).reply = s.reply := rfl

@[simp] theorem State.setLine_sent (l : LineIndex) (x : Line) (s : State) :
    (s.setLine l x).sent = s.sent := rfl

/-! ### setHop -/

@[simp] theorem State.setHop_pending (i : HopIndex) (x : Hop) (s : State) :
    (s.setHop i x).pending = s.pending := rfl

@[simp] theorem State.setHop_lines (i : HopIndex) (x : Hop) (s : State) :
    (s.setHop i x).lines = s.lines := rfl

@[simp] theorem State.setHop_arbiter (i : HopIndex) (x : Hop) (s : State) :
    (s.setHop i x).arbiter = s.arbiter := rfl

@[simp] theorem State.setHop_hops (i : HopIndex) (x : Hop) (s : State) :
    (s.setHop i x).hops = s.hops.set i x := rfl

@[simp] theorem State.setHop_holds (i : HopIndex) (x : Hop) (s : State) :
    (s.setHop i x).holds = s.holds := rfl

@[simp] theorem State.setHop_paths (i : HopIndex) (x : Hop) (s : State) :
    (s.setHop i x).paths = s.paths := rfl

@[simp] theorem State.setHop_profiles (i : HopIndex) (x : Hop) (s : State) :
    (s.setHop i x).profiles = s.profiles := rfl

@[simp] theorem State.setHop_time (i : HopIndex) (x : Hop) (s : State) :
    (s.setHop i x).time = s.time := rfl

@[simp] theorem State.setHop_ticks (i : HopIndex) (x : Hop) (s : State) :
    (s.setHop i x).ticks = s.ticks := rfl

@[simp] theorem State.setHop_probeSignals (i : HopIndex) (x : Hop) (s : State) :
    (s.setHop i x).probeSignals = s.probeSignals := rfl

@[simp] theorem State.setHop_routeSignals (i : HopIndex) (x : Hop) (s : State) :
    (s.setHop i x).routeSignals = s.routeSignals := rfl

@[simp] theorem State.setHop_probe (i : HopIndex) (x : Hop) (s : State) :
    (s.setHop i x).probe = s.probe := rfl

@[simp] theorem State.setHop_routes (i : HopIndex) (x : Hop) (s : State) :
    (s.setHop i x).routes = s.routes := rfl

@[simp] theorem State.setHop_classes (i : HopIndex) (x : Hop) (s : State) :
    (s.setHop i x).classes = s.classes := rfl

@[simp] theorem State.setHop_service (i : HopIndex) (x : Hop) (s : State) :
    (s.setHop i x).service = s.service := rfl

@[simp] theorem State.setHop_routeTaken (i : HopIndex) (x : Hop) (s : State) :
    (s.setHop i x).routeTaken = s.routeTaken := rfl

@[simp] theorem State.setHop_attentionCount (i : HopIndex) (x : Hop) (s : State) :
    (s.setHop i x).attentionCount = s.attentionCount := rfl

@[simp] theorem State.setHop_triggers (i : HopIndex) (x : Hop) (s : State) :
    (s.setHop i x).triggers = s.triggers := rfl

@[simp] theorem State.setHop_steering (i : HopIndex) (x : Hop) (s : State) :
    (s.setHop i x).steering = s.steering := rfl

@[simp] theorem State.setHop_chan (i : HopIndex) (x : Hop) (s : State) :
    (s.setHop i x).chan = s.chan := rfl

@[simp] theorem State.setHop_reply (i : HopIndex) (x : Hop) (s : State) :
    (s.setHop i x).reply = s.reply := rfl

@[simp] theorem State.setHop_sent (i : HopIndex) (x : Hop) (s : State) :
    (s.setHop i x).sent = s.sent := rfl

/-! ### setPath -/

@[simp] theorem State.setPath_pending (p : PathIndex) (x : Path) (s : State) :
    (s.setPath p x).pending = s.pending := rfl

@[simp] theorem State.setPath_lines (p : PathIndex) (x : Path) (s : State) :
    (s.setPath p x).lines = s.lines := rfl

@[simp] theorem State.setPath_arbiter (p : PathIndex) (x : Path) (s : State) :
    (s.setPath p x).arbiter = s.arbiter := rfl

@[simp] theorem State.setPath_hops (p : PathIndex) (x : Path) (s : State) :
    (s.setPath p x).hops = s.hops := rfl

@[simp] theorem State.setPath_holds (p : PathIndex) (x : Path) (s : State) :
    (s.setPath p x).holds = s.holds := rfl

@[simp] theorem State.setPath_paths (p : PathIndex) (x : Path) (s : State) :
    (s.setPath p x).paths = s.paths.set p x := rfl

@[simp] theorem State.setPath_profiles (p : PathIndex) (x : Path) (s : State) :
    (s.setPath p x).profiles = s.profiles := rfl

@[simp] theorem State.setPath_time (p : PathIndex) (x : Path) (s : State) :
    (s.setPath p x).time = s.time := rfl

@[simp] theorem State.setPath_ticks (p : PathIndex) (x : Path) (s : State) :
    (s.setPath p x).ticks = s.ticks := rfl

@[simp] theorem State.setPath_probeSignals (p : PathIndex) (x : Path) (s : State) :
    (s.setPath p x).probeSignals = s.probeSignals := rfl

@[simp] theorem State.setPath_routeSignals (p : PathIndex) (x : Path) (s : State) :
    (s.setPath p x).routeSignals = s.routeSignals := rfl

@[simp] theorem State.setPath_probe (p : PathIndex) (x : Path) (s : State) :
    (s.setPath p x).probe = s.probe := rfl

@[simp] theorem State.setPath_routes (p : PathIndex) (x : Path) (s : State) :
    (s.setPath p x).routes = s.routes := rfl

@[simp] theorem State.setPath_classes (p : PathIndex) (x : Path) (s : State) :
    (s.setPath p x).classes = s.classes := rfl

@[simp] theorem State.setPath_service (p : PathIndex) (x : Path) (s : State) :
    (s.setPath p x).service = s.service := rfl

@[simp] theorem State.setPath_routeTaken (p : PathIndex) (x : Path) (s : State) :
    (s.setPath p x).routeTaken = s.routeTaken := rfl

@[simp] theorem State.setPath_attentionCount (p : PathIndex) (x : Path) (s : State) :
    (s.setPath p x).attentionCount = s.attentionCount := rfl

@[simp] theorem State.setPath_triggers (p : PathIndex) (x : Path) (s : State) :
    (s.setPath p x).triggers = s.triggers := rfl

@[simp] theorem State.setPath_steering (p : PathIndex) (x : Path) (s : State) :
    (s.setPath p x).steering = s.steering := rfl

@[simp] theorem State.setPath_chan (p : PathIndex) (x : Path) (s : State) :
    (s.setPath p x).chan = s.chan := rfl

@[simp] theorem State.setPath_reply (p : PathIndex) (x : Path) (s : State) :
    (s.setPath p x).reply = s.reply := rfl

@[simp] theorem State.setPath_sent (p : PathIndex) (x : Path) (s : State) :
    (s.setPath p x).sent = s.sent := rfl

/-! ### setRoute -/

@[simp] theorem State.setRoute_pending (r : RouteIndex) (x : Route) (s : State) :
    (s.setRoute r x).pending = s.pending := rfl

@[simp] theorem State.setRoute_lines (r : RouteIndex) (x : Route) (s : State) :
    (s.setRoute r x).lines = s.lines := rfl

@[simp] theorem State.setRoute_arbiter (r : RouteIndex) (x : Route) (s : State) :
    (s.setRoute r x).arbiter = s.arbiter := rfl

@[simp] theorem State.setRoute_hops (r : RouteIndex) (x : Route) (s : State) :
    (s.setRoute r x).hops = s.hops := rfl

@[simp] theorem State.setRoute_holds (r : RouteIndex) (x : Route) (s : State) :
    (s.setRoute r x).holds = s.holds := rfl

@[simp] theorem State.setRoute_paths (r : RouteIndex) (x : Route) (s : State) :
    (s.setRoute r x).paths = s.paths := rfl

@[simp] theorem State.setRoute_profiles (r : RouteIndex) (x : Route) (s : State) :
    (s.setRoute r x).profiles = s.profiles := rfl

@[simp] theorem State.setRoute_time (r : RouteIndex) (x : Route) (s : State) :
    (s.setRoute r x).time = s.time := rfl

@[simp] theorem State.setRoute_ticks (r : RouteIndex) (x : Route) (s : State) :
    (s.setRoute r x).ticks = s.ticks := rfl

@[simp] theorem State.setRoute_probeSignals (r : RouteIndex) (x : Route) (s : State) :
    (s.setRoute r x).probeSignals = s.probeSignals := rfl

@[simp] theorem State.setRoute_routeSignals (r : RouteIndex) (x : Route) (s : State) :
    (s.setRoute r x).routeSignals = s.routeSignals := rfl

@[simp] theorem State.setRoute_probe (r : RouteIndex) (x : Route) (s : State) :
    (s.setRoute r x).probe = s.probe := rfl

@[simp] theorem State.setRoute_routes (r : RouteIndex) (x : Route) (s : State) :
    (s.setRoute r x).routes = s.routes.set r x := rfl

@[simp] theorem State.setRoute_classes (r : RouteIndex) (x : Route) (s : State) :
    (s.setRoute r x).classes = s.classes := rfl

@[simp] theorem State.setRoute_service (r : RouteIndex) (x : Route) (s : State) :
    (s.setRoute r x).service = s.service := rfl

@[simp] theorem State.setRoute_routeTaken (r : RouteIndex) (x : Route) (s : State) :
    (s.setRoute r x).routeTaken = s.routeTaken := rfl

@[simp] theorem State.setRoute_attentionCount (r : RouteIndex) (x : Route) (s : State) :
    (s.setRoute r x).attentionCount = s.attentionCount := rfl

@[simp] theorem State.setRoute_triggers (r : RouteIndex) (x : Route) (s : State) :
    (s.setRoute r x).triggers = s.triggers := rfl

@[simp] theorem State.setRoute_steering (r : RouteIndex) (x : Route) (s : State) :
    (s.setRoute r x).steering = s.steering := rfl

@[simp] theorem State.setRoute_chan (r : RouteIndex) (x : Route) (s : State) :
    (s.setRoute r x).chan = s.chan := rfl

@[simp] theorem State.setRoute_reply (r : RouteIndex) (x : Route) (s : State) :
    (s.setRoute r x).reply = s.reply := rfl

@[simp] theorem State.setRoute_sent (r : RouteIndex) (x : Route) (s : State) :
    (s.setRoute r x).sent = s.sent := rfl

/-! ### setTime -/

@[simp] theorem State.setTime_pending (x : TimeBase) (s : State) :
    (s.setTime x).pending = s.pending := rfl

@[simp] theorem State.setTime_lines (x : TimeBase) (s : State) :
    (s.setTime x).lines = s.lines := rfl

@[simp] theorem State.setTime_arbiter (x : TimeBase) (s : State) :
    (s.setTime x).arbiter = s.arbiter := rfl

@[simp] theorem State.setTime_hops (x : TimeBase) (s : State) : (s.setTime x).hops = s.hops := rfl

@[simp] theorem State.setTime_holds (x : TimeBase) (s : State) :
    (s.setTime x).holds = s.holds := rfl

@[simp] theorem State.setTime_paths (x : TimeBase) (s : State) :
    (s.setTime x).paths = s.paths := rfl

@[simp] theorem State.setTime_profiles (x : TimeBase) (s : State) :
    (s.setTime x).profiles = s.profiles := rfl

@[simp] theorem State.setTime_time (x : TimeBase) (s : State) : (s.setTime x).time = x := rfl

@[simp] theorem State.setTime_ticks (x : TimeBase) (s : State) :
    (s.setTime x).ticks = s.ticks := rfl

@[simp] theorem State.setTime_probeSignals (x : TimeBase) (s : State) :
    (s.setTime x).probeSignals = s.probeSignals := rfl

@[simp] theorem State.setTime_routeSignals (x : TimeBase) (s : State) :
    (s.setTime x).routeSignals = s.routeSignals := rfl

@[simp] theorem State.setTime_probe (x : TimeBase) (s : State) :
    (s.setTime x).probe = s.probe := rfl

@[simp] theorem State.setTime_routes (x : TimeBase) (s : State) :
    (s.setTime x).routes = s.routes := rfl

@[simp] theorem State.setTime_classes (x : TimeBase) (s : State) :
    (s.setTime x).classes = s.classes := rfl

@[simp] theorem State.setTime_service (x : TimeBase) (s : State) :
    (s.setTime x).service = s.service := rfl

@[simp] theorem State.setTime_routeTaken (x : TimeBase) (s : State) :
    (s.setTime x).routeTaken = s.routeTaken := rfl

@[simp] theorem State.setTime_attentionCount (x : TimeBase) (s : State) :
    (s.setTime x).attentionCount = s.attentionCount := rfl

@[simp] theorem State.setTime_triggers (x : TimeBase) (s : State) :
    (s.setTime x).triggers = s.triggers := rfl

@[simp] theorem State.setTime_steering (x : TimeBase) (s : State) :
    (s.setTime x).steering = s.steering := rfl

@[simp] theorem State.setTime_chan (x : TimeBase) (s : State) : (s.setTime x).chan = s.chan := rfl

@[simp] theorem State.setTime_reply (x : TimeBase) (s : State) :
    (s.setTime x).reply = s.reply := rfl

@[simp] theorem State.setTime_sent (x : TimeBase) (s : State) : (s.setTime x).sent = s.sent := rfl

/-! ### setTicks -/

@[simp] theorem State.setTicks_pending (x : Ticks) (s : State) :
    (s.setTicks x).pending = s.pending := rfl

@[simp] theorem State.setTicks_lines (x : Ticks) (s : State) :
    (s.setTicks x).lines = s.lines := rfl

@[simp] theorem State.setTicks_arbiter (x : Ticks) (s : State) :
    (s.setTicks x).arbiter = s.arbiter := rfl

@[simp] theorem State.setTicks_hops (x : Ticks) (s : State) : (s.setTicks x).hops = s.hops := rfl

@[simp] theorem State.setTicks_holds (x : Ticks) (s : State) :
    (s.setTicks x).holds = s.holds := rfl

@[simp] theorem State.setTicks_paths (x : Ticks) (s : State) :
    (s.setTicks x).paths = s.paths := rfl

@[simp] theorem State.setTicks_profiles (x : Ticks) (s : State) :
    (s.setTicks x).profiles = s.profiles := rfl

@[simp] theorem State.setTicks_time (x : Ticks) (s : State) : (s.setTicks x).time = s.time := rfl

@[simp] theorem State.setTicks_ticks (x : Ticks) (s : State) :
    (s.setTicks x).ticks = x := rfl

@[simp] theorem State.setTicks_probeSignals (x : Ticks) (s : State) :
    (s.setTicks x).probeSignals = s.probeSignals := rfl

@[simp] theorem State.setTicks_routeSignals (x : Ticks) (s : State) :
    (s.setTicks x).routeSignals = s.routeSignals := rfl

@[simp] theorem State.setTicks_probe (x : Ticks) (s : State) :
    (s.setTicks x).probe = s.probe := rfl

@[simp] theorem State.setTicks_routes (x : Ticks) (s : State) :
    (s.setTicks x).routes = s.routes := rfl

@[simp] theorem State.setTicks_classes (x : Ticks) (s : State) :
    (s.setTicks x).classes = s.classes := rfl

@[simp] theorem State.setTicks_service (x : Ticks) (s : State) :
    (s.setTicks x).service = s.service := rfl

@[simp] theorem State.setTicks_routeTaken (x : Ticks) (s : State) :
    (s.setTicks x).routeTaken = s.routeTaken := rfl

@[simp] theorem State.setTicks_attentionCount (x : Ticks) (s : State) :
    (s.setTicks x).attentionCount = s.attentionCount := rfl

@[simp] theorem State.setTicks_triggers (x : Ticks) (s : State) :
    (s.setTicks x).triggers = s.triggers := rfl

@[simp] theorem State.setTicks_steering (x : Ticks) (s : State) :
    (s.setTicks x).steering = s.steering := rfl

@[simp] theorem State.setTicks_chan (x : Ticks) (s : State) : (s.setTicks x).chan = s.chan := rfl

@[simp] theorem State.setTicks_reply (x : Ticks) (s : State) :
    (s.setTicks x).reply = s.reply := rfl

@[simp] theorem State.setTicks_sent (x : Ticks) (s : State) : (s.setTicks x).sent = s.sent := rfl

/-! ### setProbe -/

@[simp] theorem State.setProbe_pending (x : ProbeEngine) (s : State) :
    (s.setProbe x).pending = s.pending := rfl

@[simp] theorem State.setProbe_lines (x : ProbeEngine) (s : State) :
    (s.setProbe x).lines = s.lines := rfl

@[simp] theorem State.setProbe_arbiter (x : ProbeEngine) (s : State) :
    (s.setProbe x).arbiter = s.arbiter := rfl

@[simp] theorem State.setProbe_hops (x : ProbeEngine) (s : State) :
    (s.setProbe x).hops = s.hops := rfl

@[simp] theorem State.setProbe_holds (x : ProbeEngine) (s : State) :
    (s.setProbe x).holds = s.holds := rfl

@[simp] theorem State.setProbe_paths (x : ProbeEngine) (s : State) :
    (s.setProbe x).paths = s.paths := rfl

@[simp] theorem State.setProbe_profiles (x : ProbeEngine) (s : State) :
    (s.setProbe x).profiles = s.profiles := rfl

@[simp] theorem State.setProbe_time (x : ProbeEngine) (s : State) :
    (s.setProbe x).time = s.time := rfl

@[simp] theorem State.setProbe_ticks (x : ProbeEngine) (s : State) :
    (s.setProbe x).ticks = s.ticks := rfl

@[simp] theorem State.setProbe_probeSignals (x : ProbeEngine) (s : State) :
    (s.setProbe x).probeSignals = s.probeSignals := rfl

@[simp] theorem State.setProbe_routeSignals (x : ProbeEngine) (s : State) :
    (s.setProbe x).routeSignals = s.routeSignals := rfl

@[simp] theorem State.setProbe_probe (x : ProbeEngine) (s : State) : (s.setProbe x).probe = x := rfl

@[simp] theorem State.setProbe_routes (x : ProbeEngine) (s : State) :
    (s.setProbe x).routes = s.routes := rfl

@[simp] theorem State.setProbe_classes (x : ProbeEngine) (s : State) :
    (s.setProbe x).classes = s.classes := rfl

@[simp] theorem State.setProbe_service (x : ProbeEngine) (s : State) :
    (s.setProbe x).service = s.service := rfl

@[simp] theorem State.setProbe_routeTaken (x : ProbeEngine) (s : State) :
    (s.setProbe x).routeTaken = s.routeTaken := rfl

@[simp] theorem State.setProbe_attentionCount (x : ProbeEngine) (s : State) :
    (s.setProbe x).attentionCount = s.attentionCount := rfl

@[simp] theorem State.setProbe_triggers (x : ProbeEngine) (s : State) :
    (s.setProbe x).triggers = s.triggers := rfl

@[simp] theorem State.setProbe_steering (x : ProbeEngine) (s : State) :
    (s.setProbe x).steering = s.steering := rfl

@[simp] theorem State.setProbe_chan (x : ProbeEngine) (s : State) :
    (s.setProbe x).chan = s.chan := rfl

@[simp] theorem State.setProbe_reply (x : ProbeEngine) (s : State) :
    (s.setProbe x).reply = s.reply := rfl

@[simp] theorem State.setProbe_sent (x : ProbeEngine) (s : State) :
    (s.setProbe x).sent = s.sent := rfl

/-! ### setSteering -/

@[simp] theorem State.setSteering_pending (x : SteeringPort) (s : State) :
    (s.setSteering x).pending = s.pending := rfl

@[simp] theorem State.setSteering_lines (x : SteeringPort) (s : State) :
    (s.setSteering x).lines = s.lines := rfl

@[simp] theorem State.setSteering_arbiter (x : SteeringPort) (s : State) :
    (s.setSteering x).arbiter = s.arbiter := rfl

@[simp] theorem State.setSteering_hops (x : SteeringPort) (s : State) :
    (s.setSteering x).hops = s.hops := rfl

@[simp] theorem State.setSteering_holds (x : SteeringPort) (s : State) :
    (s.setSteering x).holds = s.holds := rfl

@[simp] theorem State.setSteering_paths (x : SteeringPort) (s : State) :
    (s.setSteering x).paths = s.paths := rfl

@[simp] theorem State.setSteering_profiles (x : SteeringPort) (s : State) :
    (s.setSteering x).profiles = s.profiles := rfl

@[simp] theorem State.setSteering_time (x : SteeringPort) (s : State) :
    (s.setSteering x).time = s.time := rfl

@[simp] theorem State.setSteering_ticks (x : SteeringPort) (s : State) :
    (s.setSteering x).ticks = s.ticks := rfl

@[simp] theorem State.setSteering_probeSignals (x : SteeringPort) (s : State) :
    (s.setSteering x).probeSignals = s.probeSignals := rfl

@[simp] theorem State.setSteering_routeSignals (x : SteeringPort) (s : State) :
    (s.setSteering x).routeSignals = s.routeSignals := rfl

@[simp] theorem State.setSteering_probe (x : SteeringPort) (s : State) :
    (s.setSteering x).probe = s.probe := rfl

@[simp] theorem State.setSteering_routes (x : SteeringPort) (s : State) :
    (s.setSteering x).routes = s.routes := rfl

@[simp] theorem State.setSteering_classes (x : SteeringPort) (s : State) :
    (s.setSteering x).classes = s.classes := rfl

@[simp] theorem State.setSteering_service (x : SteeringPort) (s : State) :
    (s.setSteering x).service = s.service := rfl

@[simp] theorem State.setSteering_routeTaken (x : SteeringPort) (s : State) :
    (s.setSteering x).routeTaken = s.routeTaken := rfl

@[simp] theorem State.setSteering_attentionCount (x : SteeringPort) (s : State) :
    (s.setSteering x).attentionCount = s.attentionCount := rfl

@[simp] theorem State.setSteering_triggers (x : SteeringPort) (s : State) :
    (s.setSteering x).triggers = s.triggers := rfl

@[simp] theorem State.setSteering_steering (x : SteeringPort) (s : State) :
    (s.setSteering x).steering = x := rfl

@[simp] theorem State.setSteering_chan (x : SteeringPort) (s : State) :
    (s.setSteering x).chan = s.chan := rfl

@[simp] theorem State.setSteering_reply (x : SteeringPort) (s : State) :
    (s.setSteering x).reply = s.reply := rfl

@[simp] theorem State.setSteering_sent (x : SteeringPort) (s : State) :
    (s.setSteering x).sent = s.sent := rfl

/-! ### setChan -/

@[simp] theorem State.setChan_pending (x : Channel) (s : State) :
    (s.setChan x).pending = s.pending := rfl

@[simp] theorem State.setChan_lines (x : Channel) (s : State) : (s.setChan x).lines = s.lines := rfl

@[simp] theorem State.setChan_arbiter (x : Channel) (s : State) :
    (s.setChan x).arbiter = s.arbiter := rfl

@[simp] theorem State.setChan_hops (x : Channel) (s : State) : (s.setChan x).hops = s.hops := rfl

@[simp] theorem State.setChan_holds (x : Channel) (s : State) : (s.setChan x).holds = s.holds := rfl

@[simp] theorem State.setChan_paths (x : Channel) (s : State) : (s.setChan x).paths = s.paths := rfl

@[simp] theorem State.setChan_profiles (x : Channel) (s : State) :
    (s.setChan x).profiles = s.profiles := rfl

@[simp] theorem State.setChan_time (x : Channel) (s : State) : (s.setChan x).time = s.time := rfl

@[simp] theorem State.setChan_ticks (x : Channel) (s : State) :
    (s.setChan x).ticks = s.ticks := rfl

@[simp] theorem State.setChan_probeSignals (x : Channel) (s : State) :
    (s.setChan x).probeSignals = s.probeSignals := rfl

@[simp] theorem State.setChan_routeSignals (x : Channel) (s : State) :
    (s.setChan x).routeSignals = s.routeSignals := rfl

@[simp] theorem State.setChan_probe (x : Channel) (s : State) : (s.setChan x).probe = s.probe := rfl

@[simp] theorem State.setChan_routes (x : Channel) (s : State) :
    (s.setChan x).routes = s.routes := rfl

@[simp] theorem State.setChan_classes (x : Channel) (s : State) :
    (s.setChan x).classes = s.classes := rfl

@[simp] theorem State.setChan_service (x : Channel) (s : State) :
    (s.setChan x).service = s.service := rfl

@[simp] theorem State.setChan_routeTaken (x : Channel) (s : State) :
    (s.setChan x).routeTaken = s.routeTaken := rfl

@[simp] theorem State.setChan_attentionCount (x : Channel) (s : State) :
    (s.setChan x).attentionCount = s.attentionCount := rfl

@[simp] theorem State.setChan_triggers (x : Channel) (s : State) :
    (s.setChan x).triggers = s.triggers := rfl

@[simp] theorem State.setChan_steering (x : Channel) (s : State) :
    (s.setChan x).steering = s.steering := rfl

@[simp] theorem State.setChan_chan (x : Channel) (s : State) : (s.setChan x).chan = x := rfl

@[simp] theorem State.setChan_reply (x : Channel) (s : State) : (s.setChan x).reply = s.reply := rfl

@[simp] theorem State.setChan_sent (x : Channel) (s : State) : (s.setChan x).sent = s.sent := rfl

/-! ### setArbiter -/

@[simp] theorem State.setArbiter_pending (x : Fin 9) (s : State) :
    (s.setArbiter x).pending = s.pending := rfl

@[simp] theorem State.setArbiter_lines (x : Fin 9) (s : State) :
    (s.setArbiter x).lines = s.lines := rfl

@[simp] theorem State.setArbiter_arbiter (x : Fin 9) (s : State) :
    (s.setArbiter x).arbiter = x := rfl

@[simp] theorem State.setArbiter_hops (x : Fin 9) (s : State) :
    (s.setArbiter x).hops = s.hops := rfl

@[simp] theorem State.setArbiter_holds (x : Fin 9) (s : State) :
    (s.setArbiter x).holds = s.holds := rfl

@[simp] theorem State.setArbiter_paths (x : Fin 9) (s : State) :
    (s.setArbiter x).paths = s.paths := rfl

@[simp] theorem State.setArbiter_profiles (x : Fin 9) (s : State) :
    (s.setArbiter x).profiles = s.profiles := rfl

@[simp] theorem State.setArbiter_time (x : Fin 9) (s : State) :
    (s.setArbiter x).time = s.time := rfl

@[simp] theorem State.setArbiter_ticks (x : Fin 9) (s : State) :
    (s.setArbiter x).ticks = s.ticks := rfl

@[simp] theorem State.setArbiter_probeSignals (x : Fin 9) (s : State) :
    (s.setArbiter x).probeSignals = s.probeSignals := rfl

@[simp] theorem State.setArbiter_routeSignals (x : Fin 9) (s : State) :
    (s.setArbiter x).routeSignals = s.routeSignals := rfl

@[simp] theorem State.setArbiter_probe (x : Fin 9) (s : State) :
    (s.setArbiter x).probe = s.probe := rfl

@[simp] theorem State.setArbiter_routes (x : Fin 9) (s : State) :
    (s.setArbiter x).routes = s.routes := rfl

@[simp] theorem State.setArbiter_classes (x : Fin 9) (s : State) :
    (s.setArbiter x).classes = s.classes := rfl

@[simp] theorem State.setArbiter_service (x : Fin 9) (s : State) :
    (s.setArbiter x).service = s.service := rfl

@[simp] theorem State.setArbiter_routeTaken (x : Fin 9) (s : State) :
    (s.setArbiter x).routeTaken = s.routeTaken := rfl

@[simp] theorem State.setArbiter_attentionCount (x : Fin 9) (s : State) :
    (s.setArbiter x).attentionCount = s.attentionCount := rfl

@[simp] theorem State.setArbiter_triggers (x : Fin 9) (s : State) :
    (s.setArbiter x).triggers = s.triggers := rfl

@[simp] theorem State.setArbiter_steering (x : Fin 9) (s : State) :
    (s.setArbiter x).steering = s.steering := rfl

@[simp] theorem State.setArbiter_chan (x : Fin 9) (s : State) :
    (s.setArbiter x).chan = s.chan := rfl

@[simp] theorem State.setArbiter_reply (x : Fin 9) (s : State) :
    (s.setArbiter x).reply = s.reply := rfl

@[simp] theorem State.setArbiter_sent (x : Fin 9) (s : State) :
    (s.setArbiter x).sent = s.sent := rfl

/-! ### setReply -/

@[simp] theorem State.setReply_pending (x : Reply) (s : State) :
    (s.setReply x).pending = s.pending := rfl

@[simp] theorem State.setReply_lines (x : Reply) (s : State) : (s.setReply x).lines = s.lines := rfl

@[simp] theorem State.setReply_arbiter (x : Reply) (s : State) :
    (s.setReply x).arbiter = s.arbiter := rfl

@[simp] theorem State.setReply_hops (x : Reply) (s : State) : (s.setReply x).hops = s.hops := rfl

@[simp] theorem State.setReply_holds (x : Reply) (s : State) : (s.setReply x).holds = s.holds := rfl

@[simp] theorem State.setReply_paths (x : Reply) (s : State) : (s.setReply x).paths = s.paths := rfl

@[simp] theorem State.setReply_profiles (x : Reply) (s : State) :
    (s.setReply x).profiles = s.profiles := rfl

@[simp] theorem State.setReply_time (x : Reply) (s : State) : (s.setReply x).time = s.time := rfl

@[simp] theorem State.setReply_ticks (x : Reply) (s : State) :
    (s.setReply x).ticks = s.ticks := rfl

@[simp] theorem State.setReply_probeSignals (x : Reply) (s : State) :
    (s.setReply x).probeSignals = s.probeSignals := rfl

@[simp] theorem State.setReply_routeSignals (x : Reply) (s : State) :
    (s.setReply x).routeSignals = s.routeSignals := rfl

@[simp] theorem State.setReply_probe (x : Reply) (s : State) : (s.setReply x).probe = s.probe := rfl

@[simp] theorem State.setReply_routes (x : Reply) (s : State) :
    (s.setReply x).routes = s.routes := rfl

@[simp] theorem State.setReply_classes (x : Reply) (s : State) :
    (s.setReply x).classes = s.classes := rfl

@[simp] theorem State.setReply_service (x : Reply) (s : State) :
    (s.setReply x).service = s.service := rfl

@[simp] theorem State.setReply_routeTaken (x : Reply) (s : State) :
    (s.setReply x).routeTaken = s.routeTaken := rfl

@[simp] theorem State.setReply_attentionCount (x : Reply) (s : State) :
    (s.setReply x).attentionCount = s.attentionCount := rfl

@[simp] theorem State.setReply_triggers (x : Reply) (s : State) :
    (s.setReply x).triggers = s.triggers := rfl

@[simp] theorem State.setReply_steering (x : Reply) (s : State) :
    (s.setReply x).steering = s.steering := rfl

@[simp] theorem State.setReply_chan (x : Reply) (s : State) : (s.setReply x).chan = s.chan := rfl

@[simp] theorem State.setReply_reply (x : Reply) (s : State) : (s.setReply x).reply = x := rfl

@[simp] theorem State.setReply_sent (x : Reply) (s : State) : (s.setReply x).sent = s.sent := rfl

/-! ### setSlot -/

@[simp] theorem State.setSlot_pending (k : SlotIndex) (x : Slot) (s : State) :
    (s.setSlot k x).pending = s.pending := rfl

@[simp] theorem State.setSlot_lines (k : SlotIndex) (x : Slot) (s : State) :
    (s.setSlot k x).lines = s.lines := rfl

@[simp] theorem State.setSlot_arbiter (k : SlotIndex) (x : Slot) (s : State) :
    (s.setSlot k x).arbiter = s.arbiter := rfl

@[simp] theorem State.setSlot_hops (k : SlotIndex) (x : Slot) (s : State) :
    (s.setSlot k x).hops = s.hops := rfl

@[simp] theorem State.setSlot_holds (k : SlotIndex) (x : Slot) (s : State) :
    (s.setSlot k x).holds = s.holds := rfl

@[simp] theorem State.setSlot_paths (k : SlotIndex) (x : Slot) (s : State) :
    (s.setSlot k x).paths = s.paths := rfl

@[simp] theorem State.setSlot_profiles (k : SlotIndex) (x : Slot) (s : State) :
    (s.setSlot k x).profiles = s.profiles := rfl

@[simp] theorem State.setSlot_time (k : SlotIndex) (x : Slot) (s : State) :
    (s.setSlot k x).time = s.time := rfl

@[simp] theorem State.setSlot_ticks (k : SlotIndex) (x : Slot) (s : State) :
    (s.setSlot k x).ticks = s.ticks := rfl

@[simp] theorem State.setSlot_probeSignals (k : SlotIndex) (x : Slot) (s : State) :
    (s.setSlot k x).probeSignals = s.probeSignals := rfl

@[simp] theorem State.setSlot_routeSignals (k : SlotIndex) (x : Slot) (s : State) :
    (s.setSlot k x).routeSignals = s.routeSignals := rfl

@[simp] theorem State.setSlot_probe (k : SlotIndex) (x : Slot) (s : State) :
    (s.setSlot k x).probe = { s.probe with slots := s.probe.slots.set k x } := rfl

@[simp] theorem State.setSlot_routes (k : SlotIndex) (x : Slot) (s : State) :
    (s.setSlot k x).routes = s.routes := rfl

@[simp] theorem State.setSlot_classes (k : SlotIndex) (x : Slot) (s : State) :
    (s.setSlot k x).classes = s.classes := rfl

@[simp] theorem State.setSlot_service (k : SlotIndex) (x : Slot) (s : State) :
    (s.setSlot k x).service = s.service := rfl

@[simp] theorem State.setSlot_routeTaken (k : SlotIndex) (x : Slot) (s : State) :
    (s.setSlot k x).routeTaken = s.routeTaken := rfl

@[simp] theorem State.setSlot_attentionCount (k : SlotIndex) (x : Slot) (s : State) :
    (s.setSlot k x).attentionCount = s.attentionCount := rfl

@[simp] theorem State.setSlot_triggers (k : SlotIndex) (x : Slot) (s : State) :
    (s.setSlot k x).triggers = s.triggers := rfl

@[simp] theorem State.setSlot_steering (k : SlotIndex) (x : Slot) (s : State) :
    (s.setSlot k x).steering = s.steering := rfl

@[simp] theorem State.setSlot_chan (k : SlotIndex) (x : Slot) (s : State) :
    (s.setSlot k x).chan = s.chan := rfl

@[simp] theorem State.setSlot_reply (k : SlotIndex) (x : Slot) (s : State) :
    (s.setSlot k x).reply = s.reply := rfl

@[simp] theorem State.setSlot_sent (k : SlotIndex) (x : Slot) (s : State) :
    (s.setSlot k x).sent = s.sent := rfl

/-! ### countDevice -/

@[simp] theorem State.countDevice_pending (f : DeviceCounters → DeviceCounters) (s : State) :
    (s.countDevice f).pending = s.pending := rfl

@[simp] theorem State.countDevice_lines (f : DeviceCounters → DeviceCounters) (s : State) :
    (s.countDevice f).lines = s.lines := rfl

@[simp] theorem State.countDevice_arbiter (f : DeviceCounters → DeviceCounters) (s : State) :
    (s.countDevice f).arbiter = s.arbiter := rfl

@[simp] theorem State.countDevice_hops (f : DeviceCounters → DeviceCounters) (s : State) :
    (s.countDevice f).hops = s.hops := rfl

@[simp] theorem State.countDevice_holds (f : DeviceCounters → DeviceCounters) (s : State) :
    (s.countDevice f).holds = s.holds := rfl

@[simp] theorem State.countDevice_paths (f : DeviceCounters → DeviceCounters) (s : State) :
    (s.countDevice f).paths = s.paths := rfl

@[simp] theorem State.countDevice_profiles (f : DeviceCounters → DeviceCounters) (s : State) :
    (s.countDevice f).profiles = s.profiles := rfl

@[simp] theorem State.countDevice_time (f : DeviceCounters → DeviceCounters) (s : State) :
    (s.countDevice f).time = s.time := rfl

@[simp] theorem State.countDevice_ticks (f : DeviceCounters → DeviceCounters) (s : State) :
    (s.countDevice f).ticks = s.ticks := rfl

@[simp] theorem State.countDevice_probeSignals (f : DeviceCounters → DeviceCounters) (s : State) :
    (s.countDevice f).probeSignals = s.probeSignals := rfl

@[simp] theorem State.countDevice_routeSignals (f : DeviceCounters → DeviceCounters) (s : State) :
    (s.countDevice f).routeSignals = s.routeSignals := rfl

@[simp] theorem State.countDevice_probe (f : DeviceCounters → DeviceCounters) (s : State) :
    (s.countDevice f).probe = { s.probe with counters := f s.probe.counters } := rfl

@[simp] theorem State.countDevice_routes (f : DeviceCounters → DeviceCounters) (s : State) :
    (s.countDevice f).routes = s.routes := rfl

@[simp] theorem State.countDevice_classes (f : DeviceCounters → DeviceCounters) (s : State) :
    (s.countDevice f).classes = s.classes := rfl

@[simp] theorem State.countDevice_service (f : DeviceCounters → DeviceCounters) (s : State) :
    (s.countDevice f).service = s.service := rfl

@[simp] theorem State.countDevice_routeTaken (f : DeviceCounters → DeviceCounters) (s : State) :
    (s.countDevice f).routeTaken = s.routeTaken := rfl

@[simp] theorem State.countDevice_attentionCount (f : DeviceCounters → DeviceCounters) (s : State) :
    (s.countDevice f).attentionCount = s.attentionCount := rfl

@[simp] theorem State.countDevice_triggers (f : DeviceCounters → DeviceCounters) (s : State) :
    (s.countDevice f).triggers = s.triggers := rfl

@[simp] theorem State.countDevice_steering (f : DeviceCounters → DeviceCounters) (s : State) :
    (s.countDevice f).steering = s.steering := rfl

@[simp] theorem State.countDevice_chan (f : DeviceCounters → DeviceCounters) (s : State) :
    (s.countDevice f).chan = s.chan := rfl

@[simp] theorem State.countDevice_reply (f : DeviceCounters → DeviceCounters) (s : State) :
    (s.countDevice f).reply = s.reply := rfl

@[simp] theorem State.countDevice_sent (f : DeviceCounters → DeviceCounters) (s : State) :
    (s.countDevice f).sent = s.sent := rfl

/-! ### freeSlots -/

@[simp] theorem State.freeSlots_pending (v : Slot → Bool) (s : State) :
    (s.freeSlots v).pending = s.pending := rfl

@[simp] theorem State.freeSlots_lines (v : Slot → Bool) (s : State) :
    (s.freeSlots v).lines = s.lines := rfl

@[simp] theorem State.freeSlots_arbiter (v : Slot → Bool) (s : State) :
    (s.freeSlots v).arbiter = s.arbiter := rfl

@[simp] theorem State.freeSlots_hops (v : Slot → Bool) (s : State) :
    (s.freeSlots v).hops = s.hops := rfl

@[simp] theorem State.freeSlots_holds (v : Slot → Bool) (s : State) :
    (s.freeSlots v).holds = s.holds := rfl

@[simp] theorem State.freeSlots_paths (v : Slot → Bool) (s : State) :
    (s.freeSlots v).paths = s.paths := rfl

@[simp] theorem State.freeSlots_profiles (v : Slot → Bool) (s : State) :
    (s.freeSlots v).profiles = s.profiles := rfl

@[simp] theorem State.freeSlots_time (v : Slot → Bool) (s : State) :
    (s.freeSlots v).time = s.time := rfl

@[simp] theorem State.freeSlots_ticks (v : Slot → Bool) (s : State) :
    (s.freeSlots v).ticks = s.ticks := rfl

@[simp] theorem State.freeSlots_probeSignals (v : Slot → Bool) (s : State) :
    (s.freeSlots v).probeSignals = s.probeSignals := rfl

@[simp] theorem State.freeSlots_routeSignals (v : Slot → Bool) (s : State) :
    (s.freeSlots v).routeSignals = s.routeSignals := rfl

@[simp] theorem State.freeSlots_probe (v : Slot → Bool) (s : State) :
    (s.freeSlots v).probe = { s.probe with slots := s.probe.slots.map fun k => if v k then .free else k } := rfl

@[simp] theorem State.freeSlots_routes (v : Slot → Bool) (s : State) :
    (s.freeSlots v).routes = s.routes := rfl

@[simp] theorem State.freeSlots_classes (v : Slot → Bool) (s : State) :
    (s.freeSlots v).classes = s.classes := rfl

@[simp] theorem State.freeSlots_service (v : Slot → Bool) (s : State) :
    (s.freeSlots v).service = s.service := rfl

@[simp] theorem State.freeSlots_routeTaken (v : Slot → Bool) (s : State) :
    (s.freeSlots v).routeTaken = s.routeTaken := rfl

@[simp] theorem State.freeSlots_attentionCount (v : Slot → Bool) (s : State) :
    (s.freeSlots v).attentionCount = s.attentionCount := rfl

@[simp] theorem State.freeSlots_triggers (v : Slot → Bool) (s : State) :
    (s.freeSlots v).triggers = s.triggers := rfl

@[simp] theorem State.freeSlots_steering (v : Slot → Bool) (s : State) :
    (s.freeSlots v).steering = s.steering := rfl

@[simp] theorem State.freeSlots_chan (v : Slot → Bool) (s : State) :
    (s.freeSlots v).chan = s.chan := rfl

@[simp] theorem State.freeSlots_reply (v : Slot → Bool) (s : State) :
    (s.freeSlots v).reply = s.reply := rfl

@[simp] theorem State.freeSlots_sent (v : Slot → Bool) (s : State) :
    (s.freeSlots v).sent = s.sent := rfl

/-! ### emit -/

@[simp] theorem State.emit_pending (e : Emission) (s : State) :
    (s.emit e).pending = s.pending := rfl

@[simp] theorem State.emit_lines (e : Emission) (s : State) : (s.emit e).lines = s.lines := rfl

@[simp] theorem State.emit_arbiter (e : Emission) (s : State) :
    (s.emit e).arbiter = s.arbiter := rfl

@[simp] theorem State.emit_hops (e : Emission) (s : State) : (s.emit e).hops = s.hops := rfl

@[simp] theorem State.emit_holds (e : Emission) (s : State) : (s.emit e).holds = s.holds := rfl

@[simp] theorem State.emit_paths (e : Emission) (s : State) : (s.emit e).paths = s.paths := rfl

@[simp] theorem State.emit_profiles (e : Emission) (s : State) :
    (s.emit e).profiles = s.profiles := rfl

@[simp] theorem State.emit_time (e : Emission) (s : State) : (s.emit e).time = s.time := rfl

@[simp] theorem State.emit_ticks (e : Emission) (s : State) :
    (s.emit e).ticks = s.ticks := rfl

@[simp] theorem State.emit_probeSignals (e : Emission) (s : State) :
    (s.emit e).probeSignals = s.probeSignals := rfl

@[simp] theorem State.emit_routeSignals (e : Emission) (s : State) :
    (s.emit e).routeSignals = s.routeSignals := rfl

@[simp] theorem State.emit_probe (e : Emission) (s : State) : (s.emit e).probe = s.probe := rfl

@[simp] theorem State.emit_routes (e : Emission) (s : State) : (s.emit e).routes = s.routes := rfl

@[simp] theorem State.emit_classes (e : Emission) (s : State) :
    (s.emit e).classes = s.classes := rfl

@[simp] theorem State.emit_service (e : Emission) (s : State) :
    (s.emit e).service = s.service := rfl

@[simp] theorem State.emit_routeTaken (e : Emission) (s : State) :
    (s.emit e).routeTaken = s.routeTaken := rfl

@[simp] theorem State.emit_attentionCount (e : Emission) (s : State) :
    (s.emit e).attentionCount = s.attentionCount := rfl

@[simp] theorem State.emit_triggers (e : Emission) (s : State) :
    (s.emit e).triggers = s.triggers := rfl

@[simp] theorem State.emit_steering (e : Emission) (s : State) :
    (s.emit e).steering = s.steering := rfl

@[simp] theorem State.emit_chan (e : Emission) (s : State) : (s.emit e).chan = s.chan := rfl

@[simp] theorem State.emit_reply (e : Emission) (s : State) : (s.emit e).reply = s.reply := rfl

@[simp] theorem State.emit_sent (e : Emission) (s : State) : (s.emit e).sent = s.sent ++ [e] := rfl

/-! ### trigger -/

@[simp] theorem State.trigger_pending (t : Trigger) (s : State) :
    (s.trigger t).pending = s.pending := rfl

@[simp] theorem State.trigger_lines (t : Trigger) (s : State) : (s.trigger t).lines = s.lines := rfl

@[simp] theorem State.trigger_arbiter (t : Trigger) (s : State) :
    (s.trigger t).arbiter = s.arbiter := rfl

@[simp] theorem State.trigger_hops (t : Trigger) (s : State) : (s.trigger t).hops = s.hops := rfl

@[simp] theorem State.trigger_holds (t : Trigger) (s : State) : (s.trigger t).holds = s.holds := rfl

@[simp] theorem State.trigger_paths (t : Trigger) (s : State) : (s.trigger t).paths = s.paths := rfl

@[simp] theorem State.trigger_profiles (t : Trigger) (s : State) :
    (s.trigger t).profiles = s.profiles := rfl

@[simp] theorem State.trigger_time (t : Trigger) (s : State) : (s.trigger t).time = s.time := rfl

@[simp] theorem State.trigger_ticks (t : Trigger) (s : State) :
    (s.trigger t).ticks = s.ticks := rfl

@[simp] theorem State.trigger_probeSignals (t : Trigger) (s : State) :
    (s.trigger t).probeSignals = s.probeSignals := rfl

@[simp] theorem State.trigger_routeSignals (t : Trigger) (s : State) :
    (s.trigger t).routeSignals = s.routeSignals := rfl

@[simp] theorem State.trigger_probe (t : Trigger) (s : State) : (s.trigger t).probe = s.probe := rfl

@[simp] theorem State.trigger_routes (t : Trigger) (s : State) :
    (s.trigger t).routes = s.routes := rfl

@[simp] theorem State.trigger_classes (t : Trigger) (s : State) :
    (s.trigger t).classes = s.classes := rfl

@[simp] theorem State.trigger_service (t : Trigger) (s : State) :
    (s.trigger t).service = s.service := rfl

@[simp] theorem State.trigger_routeTaken (t : Trigger) (s : State) :
    (s.trigger t).routeTaken = s.routeTaken := rfl

@[simp] theorem State.trigger_attentionCount (t : Trigger) (s : State) :
    (s.trigger t).attentionCount = s.attentionCount := rfl

@[simp] theorem State.trigger_triggers (t : Trigger) (s : State) :
    (s.trigger t).triggers = s.triggers ++ [t] := rfl

@[simp] theorem State.trigger_steering (t : Trigger) (s : State) :
    (s.trigger t).steering = s.steering := rfl

@[simp] theorem State.trigger_chan (t : Trigger) (s : State) : (s.trigger t).chan = s.chan := rfl

@[simp] theorem State.trigger_reply (t : Trigger) (s : State) : (s.trigger t).reply = s.reply := rfl

@[simp] theorem State.trigger_sent (t : Trigger) (s : State) : (s.trigger t).sent = s.sent := rfl

/-! ### raise -/

@[simp] theorem State.raise_pending (v : IrqVector) (s : State) :
    (s.raise v).pending = s.pending := rfl

@[simp] theorem State.raise_lines (v : IrqVector) (s : State) : (s.raise v).lines = s.lines := rfl

@[simp] theorem State.raise_arbiter (v : IrqVector) (s : State) :
    (s.raise v).arbiter = s.arbiter := rfl

@[simp] theorem State.raise_hops (v : IrqVector) (s : State) : (s.raise v).hops = s.hops := rfl

@[simp] theorem State.raise_holds (v : IrqVector) (s : State) : (s.raise v).holds = s.holds := rfl

@[simp] theorem State.raise_paths (v : IrqVector) (s : State) : (s.raise v).paths = s.paths := rfl

@[simp] theorem State.raise_profiles (v : IrqVector) (s : State) :
    (s.raise v).profiles = s.profiles := rfl

@[simp] theorem State.raise_time (v : IrqVector) (s : State) : (s.raise v).time = s.time := rfl

@[simp] theorem State.raise_ticks (v : IrqVector) (s : State) :
    (s.raise v).ticks = s.ticks := rfl

@[simp] theorem State.raise_probeSignals (v : IrqVector) (s : State) :
    (s.raise v).probeSignals = s.probeSignals := rfl

@[simp] theorem State.raise_routeSignals (v : IrqVector) (s : State) :
    (s.raise v).routeSignals = s.routeSignals := rfl

@[simp] theorem State.raise_probe (v : IrqVector) (s : State) : (s.raise v).probe = s.probe := rfl

@[simp] theorem State.raise_routes (v : IrqVector) (s : State) :
    (s.raise v).routes = s.routes := rfl

@[simp] theorem State.raise_classes (v : IrqVector) (s : State) :
    (s.raise v).classes = s.classes := rfl

@[simp] theorem State.raise_service (v : IrqVector) (s : State) :
    (s.raise v).service = s.service := rfl

@[simp] theorem State.raise_routeTaken (v : IrqVector) (s : State) :
    (s.raise v).routeTaken = s.routeTaken := rfl

@[simp] theorem State.raise_attentionCount (v : IrqVector) (s : State) :
    (s.raise v).attentionCount = s.attentionCount := rfl

@[simp] theorem State.raise_triggers (v : IrqVector) (s : State) :
    (s.raise v).triggers = s.triggers := rfl

@[simp] theorem State.raise_steering (v : IrqVector) (s : State) :
    (s.raise v).steering = s.steering := rfl

@[simp] theorem State.raise_chan (v : IrqVector) (s : State) :
    (s.raise v).chan = { s.chan with pendingIrq := s.chan.pendingIrq.put v true } := rfl

@[simp] theorem State.raise_reply (v : IrqVector) (s : State) : (s.raise v).reply = s.reply := rfl

@[simp] theorem State.raise_sent (v : IrqVector) (s : State) : (s.raise v).sent = s.sent := rfl

/-! ### triggerIf -/

@[simp] theorem State.triggerIf_pending (b : Bool) (t : Trigger) (s : State) :
    (s.triggerIf b t).pending = s.pending := by
  unfold State.triggerIf
  split <;> rfl

@[simp] theorem State.triggerIf_lines (b : Bool) (t : Trigger) (s : State) :
    (s.triggerIf b t).lines = s.lines := by
  unfold State.triggerIf
  split <;> rfl

@[simp] theorem State.triggerIf_arbiter (b : Bool) (t : Trigger) (s : State) :
    (s.triggerIf b t).arbiter = s.arbiter := by
  unfold State.triggerIf
  split <;> rfl

@[simp] theorem State.triggerIf_hops (b : Bool) (t : Trigger) (s : State) :
    (s.triggerIf b t).hops = s.hops := by
  unfold State.triggerIf
  split <;> rfl

@[simp] theorem State.triggerIf_holds (b : Bool) (t : Trigger) (s : State) :
    (s.triggerIf b t).holds = s.holds := by
  unfold State.triggerIf
  split <;> rfl

@[simp] theorem State.triggerIf_paths (b : Bool) (t : Trigger) (s : State) :
    (s.triggerIf b t).paths = s.paths := by
  unfold State.triggerIf
  split <;> rfl

@[simp] theorem State.triggerIf_profiles (b : Bool) (t : Trigger) (s : State) :
    (s.triggerIf b t).profiles = s.profiles := by
  unfold State.triggerIf
  split <;> rfl

@[simp] theorem State.triggerIf_time (b : Bool) (t : Trigger) (s : State) :
    (s.triggerIf b t).time = s.time := by
  unfold State.triggerIf
  split <;> rfl

@[simp] theorem State.triggerIf_ticks (b : Bool) (t : Trigger) (s : State) :
    (s.triggerIf b t).ticks = s.ticks := by
  unfold State.triggerIf
  split <;> rfl

@[simp] theorem State.triggerIf_probeSignals (b : Bool) (t : Trigger) (s : State) :
    (s.triggerIf b t).probeSignals = s.probeSignals := by
  unfold State.triggerIf
  split <;> rfl

@[simp] theorem State.triggerIf_routeSignals (b : Bool) (t : Trigger) (s : State) :
    (s.triggerIf b t).routeSignals = s.routeSignals := by
  unfold State.triggerIf
  split <;> rfl

@[simp] theorem State.triggerIf_probe (b : Bool) (t : Trigger) (s : State) :
    (s.triggerIf b t).probe = s.probe := by
  unfold State.triggerIf
  split <;> rfl

@[simp] theorem State.triggerIf_routes (b : Bool) (t : Trigger) (s : State) :
    (s.triggerIf b t).routes = s.routes := by
  unfold State.triggerIf
  split <;> rfl

@[simp] theorem State.triggerIf_classes (b : Bool) (t : Trigger) (s : State) :
    (s.triggerIf b t).classes = s.classes := by
  unfold State.triggerIf
  split <;> rfl

@[simp] theorem State.triggerIf_service (b : Bool) (t : Trigger) (s : State) :
    (s.triggerIf b t).service = s.service := by
  unfold State.triggerIf
  split <;> rfl

@[simp] theorem State.triggerIf_routeTaken (b : Bool) (t : Trigger) (s : State) :
    (s.triggerIf b t).routeTaken = s.routeTaken := by
  unfold State.triggerIf
  split <;> rfl

@[simp] theorem State.triggerIf_attentionCount (b : Bool) (t : Trigger) (s : State) :
    (s.triggerIf b t).attentionCount = s.attentionCount := by
  unfold State.triggerIf
  split <;> rfl

@[simp] theorem State.triggerIf_triggers (b : Bool) (t : Trigger) (s : State) :
    (s.triggerIf b t).triggers = if b then s.triggers ++ [t] else s.triggers := by
  unfold State.triggerIf
  split <;> rfl

@[simp] theorem State.triggerIf_steering (b : Bool) (t : Trigger) (s : State) :
    (s.triggerIf b t).steering = s.steering := by
  unfold State.triggerIf
  split <;> rfl

@[simp] theorem State.triggerIf_chan (b : Bool) (t : Trigger) (s : State) :
    (s.triggerIf b t).chan = s.chan := by
  unfold State.triggerIf
  split <;> rfl

@[simp] theorem State.triggerIf_reply (b : Bool) (t : Trigger) (s : State) :
    (s.triggerIf b t).reply = s.reply := by
  unfold State.triggerIf
  split <;> rfl

@[simp] theorem State.triggerIf_sent (b : Bool) (t : Trigger) (s : State) :
    (s.triggerIf b t).sent = s.sent := by
  unfold State.triggerIf
  split <;> rfl

/-! ### countAttention, putHop, putRoute -/

@[simp] theorem State.countAttention_pending (a b : Bool) (s : State) :
    (s.countAttention a b).pending = s.pending := by
  unfold State.countAttention
  split
  · dsimp only
    split <;> rfl
  · rfl
  · rfl

@[simp] theorem State.countAttention_lines (a b : Bool) (s : State) :
    (s.countAttention a b).lines = s.lines := by
  unfold State.countAttention
  split
  · dsimp only
    split <;> rfl
  · rfl
  · rfl

@[simp] theorem State.countAttention_arbiter (a b : Bool) (s : State) :
    (s.countAttention a b).arbiter = s.arbiter := by
  unfold State.countAttention
  split
  · dsimp only
    split <;> rfl
  · rfl
  · rfl

@[simp] theorem State.countAttention_hops (a b : Bool) (s : State) :
    (s.countAttention a b).hops = s.hops := by
  unfold State.countAttention
  split
  · dsimp only
    split <;> rfl
  · rfl
  · rfl

@[simp] theorem State.countAttention_holds (a b : Bool) (s : State) :
    (s.countAttention a b).holds = s.holds := by
  unfold State.countAttention
  split
  · dsimp only
    split <;> rfl
  · rfl
  · rfl

@[simp] theorem State.countAttention_paths (a b : Bool) (s : State) :
    (s.countAttention a b).paths = s.paths := by
  unfold State.countAttention
  split
  · dsimp only
    split <;> rfl
  · rfl
  · rfl

@[simp] theorem State.countAttention_profiles (a b : Bool) (s : State) :
    (s.countAttention a b).profiles = s.profiles := by
  unfold State.countAttention
  split
  · dsimp only
    split <;> rfl
  · rfl
  · rfl

@[simp] theorem State.countAttention_time (a b : Bool) (s : State) :
    (s.countAttention a b).time = s.time := by
  unfold State.countAttention
  split
  · dsimp only
    split <;> rfl
  · rfl
  · rfl

@[simp] theorem State.countAttention_ticks (a b : Bool) (s : State) :
    (s.countAttention a b).ticks = s.ticks := by
  unfold State.countAttention
  split
  · dsimp only
    split <;> rfl
  · rfl
  · rfl

@[simp] theorem State.countAttention_probeSignals (a b : Bool) (s : State) :
    (s.countAttention a b).probeSignals = s.probeSignals := by
  unfold State.countAttention
  split
  · dsimp only
    split <;> rfl
  · rfl
  · rfl

@[simp] theorem State.countAttention_routeSignals (a b : Bool) (s : State) :
    (s.countAttention a b).routeSignals = s.routeSignals := by
  unfold State.countAttention
  split
  · dsimp only
    split <;> rfl
  · rfl
  · rfl

@[simp] theorem State.countAttention_probe (a b : Bool) (s : State) :
    (s.countAttention a b).probe = s.probe := by
  unfold State.countAttention
  split
  · dsimp only
    split <;> rfl
  · rfl
  · rfl

@[simp] theorem State.countAttention_routes (a b : Bool) (s : State) :
    (s.countAttention a b).routes = s.routes := by
  unfold State.countAttention
  split
  · dsimp only
    split <;> rfl
  · rfl
  · rfl

@[simp] theorem State.countAttention_classes (a b : Bool) (s : State) :
    (s.countAttention a b).classes = s.classes := by
  unfold State.countAttention
  split
  · dsimp only
    split <;> rfl
  · rfl
  · rfl

@[simp] theorem State.countAttention_service (a b : Bool) (s : State) :
    (s.countAttention a b).service = s.service := by
  unfold State.countAttention
  split
  · dsimp only
    split <;> rfl
  · rfl
  · rfl

@[simp] theorem State.countAttention_routeTaken (a b : Bool) (s : State) :
    (s.countAttention a b).routeTaken = s.routeTaken := by
  unfold State.countAttention
  split
  · dsimp only
    split <;> rfl
  · rfl
  · rfl

@[simp] theorem State.countAttention_triggers (a b : Bool) (s : State) :
    (s.countAttention a b).triggers = s.triggers := by
  unfold State.countAttention
  split
  · dsimp only
    split <;> rfl
  · rfl
  · rfl

@[simp] theorem State.countAttention_steering (a b : Bool) (s : State) :
    (s.countAttention a b).steering = s.steering := by
  unfold State.countAttention
  split
  · dsimp only
    split <;> rfl
  · rfl
  · rfl

@[simp] theorem State.countAttention_reply (a b : Bool) (s : State) :
    (s.countAttention a b).reply = s.reply := by
  unfold State.countAttention
  split
  · dsimp only
    split <;> rfl
  · rfl
  · rfl

@[simp] theorem State.countAttention_sent (a b : Bool) (s : State) :
    (s.countAttention a b).sent = s.sent := by
  unfold State.countAttention
  split
  · dsimp only
    split <;> rfl
  · rfl
  · rfl

@[simp] theorem State.putHop_pending (i : HopIndex) (x : Hop) (s : State) : (s.putHop i x).pending = s.pending := by
  simp [State.putHop]

@[simp] theorem State.putHop_lines (i : HopIndex) (x : Hop) (s : State) : (s.putHop i x).lines = s.lines := by
  simp [State.putHop]

@[simp] theorem State.putHop_arbiter (i : HopIndex) (x : Hop) (s : State) : (s.putHop i x).arbiter = s.arbiter := by
  simp [State.putHop]

@[simp] theorem State.putHop_hops (i : HopIndex) (x : Hop) (s : State) : (s.putHop i x).hops = s.hops.set i x := by
  simp [State.putHop]

@[simp] theorem State.putHop_holds (i : HopIndex) (x : Hop) (s : State) : (s.putHop i x).holds = s.holds := by
  simp [State.putHop]

@[simp] theorem State.putHop_paths (i : HopIndex) (x : Hop) (s : State) : (s.putHop i x).paths = s.paths := by
  simp [State.putHop]

@[simp] theorem State.putHop_profiles (i : HopIndex) (x : Hop) (s : State) : (s.putHop i x).profiles = s.profiles := by
  simp [State.putHop]

@[simp] theorem State.putHop_time (i : HopIndex) (x : Hop) (s : State) : (s.putHop i x).time = s.time := by
  simp [State.putHop]

@[simp] theorem State.putHop_ticks (i : HopIndex) (x : Hop) (s : State) : (s.putHop i x).ticks = s.ticks := by
  simp [State.putHop]

@[simp] theorem State.putHop_probeSignals (i : HopIndex) (x : Hop) (s : State) : (s.putHop i x).probeSignals = s.probeSignals := by
  simp [State.putHop]

@[simp] theorem State.putHop_routeSignals (i : HopIndex) (x : Hop) (s : State) : (s.putHop i x).routeSignals = s.routeSignals := by
  simp [State.putHop]

@[simp] theorem State.putHop_probe (i : HopIndex) (x : Hop) (s : State) : (s.putHop i x).probe = s.probe := by
  simp [State.putHop]

@[simp] theorem State.putHop_routes (i : HopIndex) (x : Hop) (s : State) : (s.putHop i x).routes = s.routes := by
  simp [State.putHop]

@[simp] theorem State.putHop_classes (i : HopIndex) (x : Hop) (s : State) : (s.putHop i x).classes = s.classes := by
  simp [State.putHop]

@[simp] theorem State.putHop_service (i : HopIndex) (x : Hop) (s : State) : (s.putHop i x).service = s.service := by
  simp [State.putHop]

@[simp] theorem State.putHop_routeTaken (i : HopIndex) (x : Hop) (s : State) : (s.putHop i x).routeTaken = s.routeTaken := by
  simp [State.putHop]

@[simp] theorem State.putHop_attentionCount (i : HopIndex) (x : Hop) (s : State) :
    (s.putHop i x).attentionCount = (s.countAttention s.hops[i].attention x.attention).attentionCount := rfl

@[simp] theorem State.putHop_triggers (i : HopIndex) (x : Hop) (s : State) : (s.putHop i x).triggers = s.triggers := by
  simp [State.putHop]

@[simp] theorem State.putHop_steering (i : HopIndex) (x : Hop) (s : State) : (s.putHop i x).steering = s.steering := by
  simp [State.putHop]

@[simp] theorem State.putHop_chan (i : HopIndex) (x : Hop) (s : State) :
    (s.putHop i x).chan = (s.countAttention s.hops[i].attention x.attention).chan := rfl

@[simp] theorem State.putHop_reply (i : HopIndex) (x : Hop) (s : State) : (s.putHop i x).reply = s.reply := by
  simp [State.putHop]

@[simp] theorem State.putHop_sent (i : HopIndex) (x : Hop) (s : State) : (s.putHop i x).sent = s.sent := by
  simp [State.putHop]

@[simp] theorem State.putRoute_pending (i : RouteIndex) (x : Route) (s : State) : (s.putRoute i x).pending = s.pending := by
  simp [State.putRoute]

@[simp] theorem State.putRoute_lines (i : RouteIndex) (x : Route) (s : State) : (s.putRoute i x).lines = s.lines := by
  simp [State.putRoute]

@[simp] theorem State.putRoute_arbiter (i : RouteIndex) (x : Route) (s : State) : (s.putRoute i x).arbiter = s.arbiter := by
  simp [State.putRoute]

@[simp] theorem State.putRoute_hops (i : RouteIndex) (x : Route) (s : State) : (s.putRoute i x).hops = s.hops := by
  simp [State.putRoute]

@[simp] theorem State.putRoute_holds (i : RouteIndex) (x : Route) (s : State) : (s.putRoute i x).holds = s.holds := by
  simp [State.putRoute]

@[simp] theorem State.putRoute_paths (i : RouteIndex) (x : Route) (s : State) : (s.putRoute i x).paths = s.paths := by
  simp [State.putRoute]

@[simp] theorem State.putRoute_profiles (i : RouteIndex) (x : Route) (s : State) : (s.putRoute i x).profiles = s.profiles := by
  simp [State.putRoute]

@[simp] theorem State.putRoute_time (i : RouteIndex) (x : Route) (s : State) : (s.putRoute i x).time = s.time := by
  simp [State.putRoute]

@[simp] theorem State.putRoute_ticks (i : RouteIndex) (x : Route) (s : State) : (s.putRoute i x).ticks = s.ticks := by
  simp [State.putRoute]

@[simp] theorem State.putRoute_probeSignals (i : RouteIndex) (x : Route) (s : State) : (s.putRoute i x).probeSignals = s.probeSignals := by
  simp [State.putRoute]

@[simp] theorem State.putRoute_routeSignals (i : RouteIndex) (x : Route) (s : State) : (s.putRoute i x).routeSignals = s.routeSignals := by
  simp [State.putRoute]

@[simp] theorem State.putRoute_probe (i : RouteIndex) (x : Route) (s : State) : (s.putRoute i x).probe = s.probe := by
  simp [State.putRoute]

@[simp] theorem State.putRoute_routes (i : RouteIndex) (x : Route) (s : State) : (s.putRoute i x).routes = s.routes.set i x := by
  simp [State.putRoute]

@[simp] theorem State.putRoute_classes (i : RouteIndex) (x : Route) (s : State) : (s.putRoute i x).classes = s.classes := by
  simp [State.putRoute]

@[simp] theorem State.putRoute_service (i : RouteIndex) (x : Route) (s : State) : (s.putRoute i x).service = s.service := by
  simp [State.putRoute]

@[simp] theorem State.putRoute_routeTaken (i : RouteIndex) (x : Route) (s : State) : (s.putRoute i x).routeTaken = s.routeTaken := by
  simp [State.putRoute]

@[simp] theorem State.putRoute_attentionCount (i : RouteIndex) (x : Route) (s : State) :
    (s.putRoute i x).attentionCount = (s.countAttention s.routes[i].attention x.attention).attentionCount := rfl

@[simp] theorem State.putRoute_triggers (i : RouteIndex) (x : Route) (s : State) : (s.putRoute i x).triggers = s.triggers := by
  simp [State.putRoute]

@[simp] theorem State.putRoute_steering (i : RouteIndex) (x : Route) (s : State) : (s.putRoute i x).steering = s.steering := by
  simp [State.putRoute]

@[simp] theorem State.putRoute_chan (i : RouteIndex) (x : Route) (s : State) :
    (s.putRoute i x).chan = (s.countAttention s.routes[i].attention x.attention).chan := rfl

@[simp] theorem State.putRoute_reply (i : RouteIndex) (x : Route) (s : State) : (s.putRoute i x).reply = s.reply := by
  simp [State.putRoute]

@[simp] theorem State.putRoute_sent (i : RouteIndex) (x : Route) (s : State) : (s.putRoute i x).sent = s.sent := by
  simp [State.putRoute]

end Sys2Proof.Machine
end

