-- ==== Sys2Proof/Laws/Engine.lean ====
section
/-! SUPPORT. What the list engine can do: every one of its operations changes the Maintenance Channel alone,
and presenting a request to its owning block changes beside the apply only `reply` and the channel. -/

namespace Sys2Proof.Machine

/-- An operation that changes the Maintenance Channel alone. -/
def State.onlyChan (s t : State) : Prop := ∃ c, t = s.setChan c

theorem onlyChan_refl (s : State) : s.onlyChan s := ⟨s.chan, rfl⟩

theorem onlyChan_trans {s t u : State} (h : s.onlyChan t) (k : t.onlyChan u) : s.onlyChan u := by
  obtain ⟨c, rfl⟩ := h
  obtain ⟨d, rfl⟩ := k
  exact ⟨d, rfl⟩

theorem setChan_onlyChan (s : State) (c : Channel) : s.onlyChan (s.setChan c) := ⟨c, rfl⟩

theorem raise_onlyChan (s : State) (v : IrqVector) : s.onlyChan (s.raise v) := ⟨_, rfl⟩

theorem endList_onlyChan (s : State) (k : EndKind) : s.onlyChan (s.endList k) :=
  onlyChan_trans (setChan_onlyChan _ _) (raise_onlyChan _ _)

theorem endCheck_onlyChan (s : State) (k : EndKind) (c : Cause) (a : Quad) :
    s.onlyChan (s.endCheck k c a) :=
  onlyChan_trans (setChan_onlyChan _ _) (raise_onlyChan _ _)

theorem issueFetch_onlyChan (s : State) (b : Bool) (a : Quad) : s.onlyChan (s.issueFetch b a) := by
  unfold State.issueFetch
  split
  · exact endCheck_onlyChan ..
  · split
    · exact endCheck_onlyChan ..
    · exact setChan_onlyChan ..

theorem recordCondition_onlyChan (s : State) (b : Block) (k : Condition) (c : Cause) :
    s.onlyChan (s.recordCondition b k c) := by
  unfold State.recordCondition
  dsimp only
  split
  · exact onlyChan_trans (setChan_onlyChan _ _) (raise_onlyChan _ _)
  · exact setChan_onlyChan ..

theorem reachCondition_onlyChan (s : State) (b : Block) (k : Condition) (c : Cause) :
    s.onlyChan (s.reachCondition b k c) := by
  have h := recordCondition_onlyChan s b k c
  unfold State.reachCondition
  dsimp only
  split
  · exact onlyChan_trans h (endList_onlyChan _ _)
  · split
    · exact onlyChan_trans h (endList_onlyChan _ _)
    · split
      · exact onlyChan_trans h (issueFetch_onlyChan _ _ _)
      · exact onlyChan_trans h (issueFetch_onlyChan _ _ _)

theorem finishApply_onlyChan (s : State) (b : Block) (r : Reply) : s.onlyChan (s.finishApply b r) := by
  unfold State.finishApply
  split
  · exact endCheck_onlyChan ..
  · split
    · exact reachCondition_onlyChan ..
    · exact setChan_onlyChan ..

theorem proceed_onlyChan (s : State) (row : CatalogueRow) (b : Block) : s.onlyChan (s.proceed row b) := by
  unfold State.proceed
  split
  · split
    · exact endCheck_onlyChan ..
    · exact setChan_onlyChan ..
  · split
    · exact setChan_onlyChan ..
    · exact onlyChan_refl s

theorem takeBlock_onlyChan (s : State) (b : Block) : s.onlyChan (s.takeBlock b) := by
  unfold State.takeBlock
  split
  · exact endCheck_onlyChan ..
  · exact reachCondition_onlyChan ..
  · exact proceed_onlyChan ..

theorem takeData_onlyChan (s : State) (b : Block) (d : BitVec 256) : s.onlyChan (s.takeData b d) := by
  unfold State.takeData
  split
  · exact endCheck_onlyChan ..
  · split
    · exact endCheck_onlyChan ..
    · exact setChan_onlyChan ..

/-- Presenting a request: beside what the apply did, only the reply and the channel change. -/
theorem settle_onlyChan (i : Instr) (out : State × Reply) :
    (out.1.setReply out.2).onlyChan (State.settle i out) := by
  unfold State.settle
  dsimp only
  split
  · split
    · exact finishApply_onlyChan ..
    · exact onlyChan_refl _
  · exact onlyChan_refl _

/-- A request that the block in execution does not wait for leaves the channel as the apply left it. -/
theorem settle_other {i : Instr} {out : State × Reply} (h : ∀ b, out.1.chan.work ≠ .applying b i) :
    State.settle i out = out.1.setReply out.2 := by
  unfold State.settle State.awaiting
  dsimp only [State.setReply_chan]
  split
  · rename_i b j e
    split at e
    · injection e with e
      injection e with e1 e2
      subst e1 e2
      split
      · subst i
        exact absurd (by assumption) (h _)
      · rfl
    · cases e
  · rfl

/-- A request that the block in execution waits for is finished by the list engine (R176). -/
theorem settle_waiting {i : Instr} {out : State × Reply} {b : Block} (h : out.1.chan.work = .applying b i) :
    State.settle i out = (out.1.setReply out.2).finishApply b out.2 := by
  simp [State.settle, State.awaiting, h]

/-- A request whose image fails content validation changes nothing but the answer (R171, R190). -/
theorem guarded_fault {i : Instr} {apply : State → State × Reply} {s : State} {c : Cause}
    (h : contentFault i s = some c) : guarded i apply s = (s, ⟨.none, c, []⟩) := by
  simp [guarded, h]

/-- A request whose image passes content validation is applied (R171). -/
theorem guarded_pass {i : Instr} {apply : State → State × Reply} {s : State}
    (h : contentFault i s = none) : guarded i apply s = apply s := by
  simp [guarded, h]

/-- A hop request that the channel has not got waiting is the apply at the record alone (log 4). -/
theorem hopRequest_other {i : Instr} {out : State × Reply} {s : State}
    (h : ∀ b, s.chan.work ≠ .applying b i) : s.hopRequest i out = out.1.setReply out.2 := by
  have e : (s.awaiting.any fun w => decide (w.2 = i)) = false := by
    unfold State.awaiting
    split
    · rename_i b j hw
      have : j ≠ i := fun e => h b (e ▸ hw)
      simp [this]
    · rfl
  simp [State.hopRequest, e]

/-- A hop request that the channel has waiting at the arbiter is its turn there (R14). -/
theorem hopRequest_waiting {i : Instr} {out : State × Reply} {s : State} {b : Block}
    (h : s.chan.work = .applying b i) : s.hopRequest i out = s.maintenanceTurn := by
  simp [State.hopRequest, State.awaiting, h]

end Sys2Proof.Machine
end

