-- ==== Sys2Proof/Laws/Images.lean ====
section
/-! SUPPORT. Reading a field of an image (R193) that is built of parts: the part the field stands in, what a
little-endian number, a single byte and reserved bytes spell. -/

namespace Sys2Proof.Machine

open Sys2Proof

theorem imageField_zero (image : List Byte) (off : Nat) : imageField image off 0 = 0 := rfl

/-- A field is its first byte and the rest of it. -/
theorem imageField_succ (image : List Byte) (off n : Nat) :
    imageField image off (n + 1) = (image.getD off 0).toNat + 256 * imageField image (off + 1) n := by
  unfold imageField
  rw [List.range_succ_eq_map, List.map_cons, List.sum_cons, List.map_map, ← List.sum_map_mul_left]
  simp only [Nat.add_zero, Nat.pow_zero, Nat.mul_one]
  congr 2
  apply List.map_congr_left
  intro k _
  simp only [Function.comp, Nat.succ_eq_add_one, Nat.pow_succ]
  rw [show off + (k + 1) = off + 1 + k by omega]
  ring

/-- A field that stands after a first part is a field of what follows it. -/
theorem imageField_append_right {a b : List Byte} {off n : Nat} (h : a.length ≤ off) :
    imageField (a ++ b) off n = imageField b (off - a.length) n := by
  induction n generalizing off with
  | zero => rfl
  | succ n ih =>
    rw [imageField_succ, imageField_succ, ih (by omega), List.getD_append_right _ _ _ _ h,
      show off + 1 - a.length = off - a.length + 1 by omega]

/-- A field that ends within a first part is a field of that part. -/
theorem imageField_append_left {a b : List Byte} {off n : Nat} (h : off + n ≤ a.length) :
    imageField (a ++ b) off n = imageField a off n := by
  induction n generalizing off with
  | zero => rfl
  | succ n ih =>
    rw [imageField_succ, imageField_succ, ih (by omega), List.getD_append _ _ _ _ (by omega)]

theorem imageField_cons_succ (x : Byte) (a : List Byte) (off n : Nat) :
    imageField (x :: a) (off + 1) n = imageField a off n :=
  imageField_append_right (a := [x]) (by simp)

/-- A little-endian number of `n` bytes reads back modulo 256 to the n. -/
theorem imageField_leBytes (n x : Nat) : imageField (leBytes n x) 0 n = x % 256 ^ n := by
  induction n generalizing x with
  | zero => simp [imageField_zero, Nat.mod_one]
  | succ n ih =>
    rw [imageField_succ, leBytes, imageField_cons_succ, ih, Nat.pow_succ, Nat.mul_comm (256 ^ n), Nat.mod_mul]
    simp

/-- A single byte. -/
theorem imageField_byte (x : Byte) (a : List Byte) : imageField (x :: a) 0 1 = x.toNat := by
  simp [imageField_succ, imageField_zero]

/-- Reserved bytes are 0. -/
theorem imageField_replicate (k off n : Nat) : imageField (List.replicate k 0) off n = 0 := by
  induction n generalizing off with
  | zero => rfl
  | succ n ih =>
    rw [imageField_succ, ih, List.getD_eq_getElem?_getD, List.getElem?_replicate]
    split <;> rfl

end Sys2Proof.Machine
end

