-- ==== Sys2Proof/Laws/Requests.lean ====
section
/-! SUPPORT. What a request command can do, said once: `Applies` from the apply, for requests taken at their
own block and for those whose image is validated first. -/

namespace Sys2Proof.Machine

open Sys2Proof

/-- An operation that changes the channel alone changes no other field. -/
theorem State.onlyChan.eq_of_chan {s t : State} (h : s.onlyChan t) (c : Channel) :
    { t with chan := c } = { s with chan := c } := by
  obtain ⟨d, rfl⟩ := h
  rfl

/-- A request whose meaning is to settle the outcome of an apply: it leaves what the apply left and keeps the
answer. The apply does not touch the work of the channel. -/
theorem applies_of_settle {i : Instr} {s : State} {out : State × Reply}
    (he : exec i s = .next (State.settle i out)) (hw : out.1.chan.work = s.chan.work) :
    Applies i s out.1 out.2 :=
  ⟨_, he, fun h => settle_other fun b hb => h ⟨b, hw ▸ hb⟩, fun _ hb => settle_waiting (hw.trans hb)⟩

/-- `applies_of_settle` with the outcome of the apply written out. -/
theorem applies_of_settle_eq {i : Instr} {s t : State} {r : Reply} {out : State × Reply}
    (he : exec i s = .next (State.settle i out)) (ho : out = (t, r)) (hw : t.chan.work = s.chan.work) :
    Applies i s t r := by
  subst ho
  exact applies_of_settle he hw

/-- A request whose image fails content validation changes nothing but the answer (R171, R190). -/
theorem applies_of_fault {i : Instr} {apply : State → State × Reply} {s : State} {c : Cause}
    (he : exec i s = .next (State.settle i (guarded i apply s))) (h : contentFault i s = some c) :
    Applies i s s ⟨.none, c, []⟩ :=
  applies_of_settle_eq he (guarded_fault h) rfl

/-- A request whose image passes content validation does what its apply does (R171, R190). -/
theorem applies_of_pass {i : Instr} {apply : State → State × Reply} {s t : State} {r : Reply}
    (he : exec i s = .next (State.settle i (guarded i apply s))) (h : contentFault i s = none)
    (ho : apply s = (t, r)) (hw : t.chan.work = s.chan.work) : Applies i s t r :=
  applies_of_settle_eq he ((guarded_pass h).trans ho) hw

/-- `Applies` fixes the answer and every field but the channel; the channel too, where the block in execution
does not wait for the request. -/
theorem Applies.frame {i : Instr} {s t : State} {r : Reply} (h : Applies i s t r) :
    ∃ u, exec i s = .next u ∧ { u with chan := t.chan } = { t with reply := r } ∧
      (¬ s.waitsFor i → u.chan = t.chan) := by
  obtain ⟨u, he, hn, hw⟩ := h
  refine ⟨u, he, ?_, fun h => by rw [hn h]⟩
  by_cases h : s.waitsFor i
  · obtain ⟨b, hb⟩ := h
    rw [hw b hb]
    exact (finishApply_onlyChan ({ t with reply := r } : State) b r).eq_of_chan t.chan
  · rw [hn h]

end Sys2Proof.Machine
end

