-- ==== Sys2Proof/Laws/Step.lean ====
section
/-! SUPPORT. What a step can answer: a next state, always; and the two cases of the queue. -/

namespace Sys2Proof.Machine

open Sys2Proof

/-- Every command completes in every state: the part has no event that stops it (log 23). -/
theorem exec_next (i : Instr) (s : State) : ∃ t, exec i s = .next t := by
  cases i with
  | lineTurn =>
    simp only [exec, execLineTurn]
    split
    · split <;> exact ⟨_, rfl⟩
    · exact ⟨_, rfl⟩
  | referencePulse =>
    simp only [exec, execReferencePulse]
    split
    · exact ⟨_, rfl⟩
    · split <;> exact ⟨_, rfl⟩
  | stepSignalProbeEngine => simp only [exec, execStepSignalProbeEngine]; split <;> exact ⟨_, rfl⟩
  | stepSignalRouteTable => simp only [exec, execStepSignalRouteTable]; split <;> exact ⟨_, rfl⟩
  | frameTransmissionEnd => simp only [exec, execFrameTransmissionEnd]; split <;> exact ⟨_, rfl⟩
  | probeFrameReceived _ _ => simp only [exec, execProbeFrameReceived]; split <;> exact ⟨_, rfl⟩
  | reRankTrigger _ => simp only [exec, execReRankTrigger]; split <;> exact ⟨_, rfl⟩
  | recomputation => simp only [exec, execRecomputation]; split <;> exact ⟨_, rfl⟩
  | steeringRequestWord _ =>
    simp only [exec, execSteeringRequestWord]
    split
    · split <;> exact ⟨_, rfl⟩
    · exact ⟨_, rfl⟩
  | lookupComputation => simp only [exec, execLookupComputation]; split <;> exact ⟨_, rfl⟩
  | answerWordTaken => simp only [exec, execAnswerWordTaken]; split <;> exact ⟨_, rfl⟩
  | windowWrite _ _ _ =>
    simp only [exec, execWindowWrite]
    split
    · exact ⟨_, rfl⟩
    · split <;> exact ⟨_, rfl⟩
  | configurationWrite x => cases x <;> exact ⟨_, rfl⟩
  | blockFetchComplete _ _ =>
    simp only [exec, execBlockFetchComplete]
    split
    · split
      · split <;> exact ⟨_, rfl⟩
      · exact ⟨_, rfl⟩
    · exact ⟨_, rfl⟩
  | dataReadComplete _ _ =>
    simp only [exec, execDataReadComplete]
    split
    · split
      · split <;> exact ⟨_, rfl⟩
      · exact ⟨_, rfl⟩
    · exact ⟨_, rfl⟩
  | skippedBlockFetchComplete _ _ =>
    simp only [exec, execSkippedBlockFetchComplete]
    split
    · split
      · split <;> exact ⟨_, rfl⟩
      · exact ⟨_, rfl⟩
    · exact ⟨_, rfl⟩
  | interruptMessage _ => simp only [exec, execInterruptMessage]; split <;> exact ⟨_, rfl⟩
  | _ => exact ⟨_, rfl⟩

/-- With a command at the front of the queue a step is that command on the state with the queue's rest. -/
theorem step_cons {s : State} {i : Instr} {rest : List Instr} (h : s.pending = i :: rest) :
    step s = exec i { s with pending := rest } := by
  simp [step, h]

/-- On an empty queue the part idles (log 2). -/
theorem step_nil {s : State} (h : s.pending = []) : step s = .next s := by simp [step, h]

/-- A step that answers a next state idles or runs the front command: the form an invariant of the steps is
proved in. -/
theorem step_cases {s t : State} (h : step s = .next t) :
    t = s ∨ ∃ i rest, s.pending = i :: rest ∧ exec i { s with pending := rest } = .next t := by
  cases hp : s.pending with
  | nil =>
    rw [step_nil hp] at h
    injection h with h
    exact .inl h.symm
  | cons i rest => exact .inr ⟨i, rest, rfl, step_cons hp ▸ h⟩

end Sys2Proof.Machine
end

