-- ==== Sys2Proof/Laws/Tables.lean ====
section
/-! SUPPORT. Reading a table after one of its records was written, at an index that is a `Fin`: what stands at
the written index, that every other record is as it was, and that two equal tables agree at every index. -/

namespace Sys2Proof.Machine

variable {α β : Type} {n : Nat}

/-- A record reads back as it was written. -/
theorem table_set_self (v : Vector α n) (i : Fin n) (x : α) : (v.set i x)[i] = x := by simp

/-- Every other record is as it was. -/
theorem table_set_ne (v : Vector α n) {i j : Fin n} (x : α) (h : j ≠ i) : (v.set i x)[j] = v[j] := by
  have : (i : Nat) ≠ j := fun e => h (Fin.ext e.symm)
  simp [this]

/-- A record after a write, as one case distinction. -/
theorem table_set (v : Vector α n) (i j : Fin n) (x : α) :
    (v.set i x)[j] = if j = i then x else v[j] := by
  split
  · subst j
    exact table_set_self v i x
  · rename_i h
    exact table_set_ne v x h

/-- Writing back what stands at an index changes nothing. -/
theorem table_set_get (v : Vector α n) (i : Fin n) : v.set i v[i] = v := by simp

/-- Of two writes at one index the second stands. -/
theorem table_set_set (v : Vector α n) (i : Fin n) (x y : α) : (v.set i x).set i y = v.set i y := by simp

/-- A record of a tabulated table. -/
theorem tabulate_get (f : Fin n → α) (i : Fin n) : (tabulate n f)[i] = f i := by simp [tabulate]

/-- A record of a table mapped record by record. -/
theorem table_map (v : Vector α n) (f : α → β) (i : Fin n) : (v.map f)[i] = f v[i] := by simp

/-- Tables that agree at every index are equal. -/
theorem table_ext {v w : Vector α n} (h : ∀ i : Fin n, v[i] = w[i]) : v = w := by
  ext k hk
  exact h ⟨k, hk⟩

/-- A state with one record of a table written back as it stands is the same state. -/
theorem State.setLine_get (s : State) (l : LineIndex) : s.setLine l s.lines[l] = s := by
  simp only [State.setLine, table_set_get]

theorem State.setHop_get (s : State) (i : HopIndex) : s.setHop i s.hops[i] = s := by
  simp only [State.setHop, table_set_get]

theorem State.setPath_get (s : State) (p : PathIndex) : s.setPath p s.paths[p] = s := by
  simp only [State.setPath, table_set_get]

theorem State.setRoute_get (s : State) (r : RouteIndex) : s.setRoute r s.routes[r] = s := by
  simp only [State.setRoute, table_set_get]

/-- A record whose attention flag stays is written with no accounting. -/
theorem State.countAttention_same (s : State) (b : Bool) : s.countAttention b b = s := by
  cases b <;> rfl

theorem State.putHop_same {s : State} {i : HopIndex} {x : Hop} (h : x.attention = s.hops[i].attention) :
    s.putHop i x = s.setHop i x := by
  rw [State.putHop, h, State.countAttention_same]

theorem State.putRoute_same {s : State} {i : RouteIndex} {x : Route}
    (h : x.attention = s.routes[i].attention) : s.putRoute i x = s.setRoute i x := by
  rw [State.putRoute, h, State.countAttention_same]

/-- The Maintenance Channel of a state whose attention count followed a flag keeps its work. -/
theorem State.countAttention_work (s : State) (old new : Bool) :
    (s.countAttention old new).chan.work = s.chan.work := by
  cases old <;> cases new <;> try rfl
  unfold State.countAttention
  dsimp only
  split <;> rfl

end Sys2Proof.Machine
end

