-- ==== Sys2Proof/Laws/Ticks.lean ====
section
/-! SUPPORT. The millisecond tick at a place: how the count of ticks still to be taken moves, and that taking a
tick neither reads nor moves that count, so that a tick is its effect at the place with the count one less. -/

namespace Sys2Proof.Machine

open Sys2Proof

@[simp] theorem Ticks.owed_none (x : TickPlace) : Ticks.none.owed x = 0 := by
  cases x <;> simp [Ticks.owed, Ticks.none]

/-- A delivery owes every place one tick more (R75). -/
@[simp] theorem Ticks.owed_deliver (t : Ticks) (x : TickPlace) : t.deliver.owed x = t.owed x + 1 := by
  cases x <;> simp [Ticks.owed, Ticks.deliver]

/-- A place that takes a tick is owed one less, and every other place as many as before. -/
theorem Ticks.owed_take (t : Ticks) (x y : TickPlace) :
    (t.take x).owed y = if y = x then t.owed y - 1 else t.owed y := by
  cases x <;> cases y <;> simp only [Ticks.owed, Ticks.take, table_set, TickPlace.hop.injEq,
    TickPlace.slot.injEq, TickPlace.path.injEq, reduceCtorEq, if_false, if_true] <;>
    split <;> simp_all

/-! ### Taking a tick neither reads nor moves the ticks still to be taken -/

theorem State.countAttention_setTicks (s : State) (old new : Bool) (n : Ticks) :
    (s.setTicks n).countAttention old new = (s.countAttention old new).setTicks n := by
  cases old <;> cases new <;> try rfl
  by_cases h : s.attentionCount = 0 <;>
    simp only [State.countAttention, State.setTicks_attentionCount, h, if_true, if_false] <;> rfl

theorem State.putHop_setTicks (s : State) (i : HopIndex) (x : Hop) (n : Ticks) :
    (s.setTicks n).putHop i x = (s.putHop i x).setTicks n := by
  rw [State.putHop, State.setTicks_hops, State.countAttention_setTicks]
  rfl

theorem State.triggerIf_setTicks (s : State) (b : Bool) (t : Trigger) (n : Ticks) :
    (s.setTicks n).triggerIf b t = (s.triggerIf b t).setTicks n := by cases b <;> rfl

theorem State.clearHoldExpiry_setTicks (s : State) (i : HopIndex) (n : Ticks) :
    (s.setTicks n).clearHoldExpiry i = (s.clearHoldExpiry i).setTicks n := by
  unfold State.clearHoldExpiry
  rw [apply_ite (State.setTicks n), State.trigger, State.trigger, ← State.triggerIf_setTicks,
    ← State.putHop_setTicks]
  rfl

theorem State.silenceExpiry_setTicks (s : State) (i : HopIndex) (n : Ticks) :
    (s.setTicks n).silenceExpiry i = (s.silenceExpiry i).setTicks n := by
  unfold State.silenceExpiry
  rw [apply_ite (State.setTicks n), State.trigger, State.trigger, ← State.triggerIf_setTicks,
    ← State.putHop_setTicks]
  rfl

theorem State.holdoverEntry_setTicks (s : State) (n : Ticks) :
    (s.setTicks n).holdoverEntry = s.holdoverEntry.setTicks n := by
  unfold State.holdoverEntry State.enterTimeState
  rw [apply_ite (State.setTicks n), apply_ite (State.setTicks n)]
  rfl

theorem State.echoTimeout_setTicks (s : State) (k : SlotIndex) (n : Ticks) :
    (s.setTicks n).echoTimeout k = (s.echoTimeout k).setTicks n := by
  unfold State.echoTimeout
  dsimp only [State.setTicks_probe, State.setTicks_paths]
  split
  · rw [apply_ite (State.setTicks n), ← State.triggerIf_setTicks]
    rfl
  · rfl

theorem State.queueProbe_setTicks (s : State) (p : PathIndex) (n : Ticks) :
    (s.setTicks n).queueProbe p = (s.queueProbe p).setTicks n := by
  have h : (s.setTicks n).freeSlot = s.freeSlot := rfl
  unfold State.queueProbe
  rw [h]
  dsimp only
  rw [apply_ite (State.setTicks n), apply_ite (State.setTicks n)]
  cases s.freeSlot <;> rfl

theorem State.probeTimerExpiry_setTicks (s : State) (p : PathIndex) (n : Ticks) :
    (s.setTicks n).probeTimerExpiry p = (s.probeTimerExpiry p).setTicks n := by
  unfold State.probeTimerExpiry
  rw [apply_ite (State.setTicks n), ← State.queueProbe_setTicks]
  rfl

theorem State.readTimeout_setTicks (s : State) (n : Ticks) :
    (s.setTicks n).readTimeout = s.readTimeout.setTicks n := by
  unfold State.readTimeout
  dsimp only [State.setTicks_chan]
  split <;> first | rfl | (rw [apply_ite (State.setTicks n)]; rfl)

/-- What a tick does at its place does not depend on the ticks still to be taken, and does not move them. -/
theorem State.takeTick_setTicks (x : TickPlace) (s : State) (n : Ticks) :
    (s.setTicks n).takeTick x = (s.takeTick x).setTicks n := by
  cases x with
  | hop i =>
    rw [State.takeTick, State.takeTick, ← State.silenceExpiry_setTicks, ← State.clearHoldExpiry_setTicks]
    rfl
  | supervision => exact State.holdoverEntry_setTicks s.advanceSupervision n
  | slot k => exact State.echoTimeout_setTicks (s.advanceSlot k) k n
  | path p => exact State.probeTimerExpiry_setTicks (s.advancePath p) p n
  | channel => exact State.readTimeout_setTicks s.advanceChannel n

/-! ### The tick -/

/-- With no tick delivered there is none to take (log 11). -/
theorem State.tick_of_none {x : TickPlace} {s : State} (h : s.ticks.owed x = 0) : s.tick x = s := by
  simp [State.tick, h]

/-- A tick that is taken: its effect at the place, and the count there one less. -/
theorem State.tick_of_owed {x : TickPlace} {s : State} (h : s.ticks.owed x ≠ 0) :
    s.tick x = (s.takeTick x).setTicks (s.ticks.take x) := by
  rw [State.tick, if_neg h, State.takeTick_setTicks]

theorem State.takeTick_ticks (x : TickPlace) (s : State) : (s.takeTick x).ticks = s.ticks := by
  have h := congrArg State.ticks (State.takeTick_setTicks x s s.ticks)
  exact h

/-- A tick that is taken does, beside the count, exactly what the tick does at its place. -/
theorem State.tick_effect {x : TickPlace} {s : State} (h : s.ticks.owed x ≠ 0) :
    { s.tick x with ticks := s.ticks } = s.takeTick x := by
  rw [State.tick_of_owed h]
  show (s.takeTick x).setTicks s.ticks = _
  rw [← State.takeTick_ticks x s]
  rfl

end Sys2Proof.Machine
end

