-- ==== Sys2Proof/WellFormed.lean ====
section
/-! DEFINITION. Well-formed commands: operands that a partner of the part can present and that pass every
check the spec makes on them alone, without the tables. An ill-formed command has a meaning all the same:
the check it fails. -/

namespace Sys2Proof

open Machine

/-- No check of a list fails. -/
def noneFails (checks : List (Bool × Cause)) : Bool := (firstFailure checks).isNone

/-- The WRITE-PATH image passes the checks of R67 that read the image alone. -/
def PathImage.wf (i : PathImage) : Bool := noneFails i.staticChecks.1 && noneFails i.staticChecks.2

/-- The WRITE-ROUTE image passes the checks of R137 that read the image alone. -/
def RouteImage.wf (i : RouteImage) : Bool := noneFails i.staticChecks.1 && noneFails i.staticChecks.2

/-- An access the window accepts: 4 bytes at a multiple of 4 or 8 bytes at a multiple of 8, within its 64
bytes (R188). -/
def windowAccess (offset size : Nat) : Bool :=
  ((size = 4 && offset % 4 = 0) || (size = 8 && offset % 8 = 0)) && decide (offset + size ≤ 64)

/-- The operands of a command pass the checks the spec makes on them alone. -/
def Instr.wf (i : Instr) : Bool :=
  match i with
  | .writeHop _ image => image.check.isNone
  | .writePath _ image => image.wf
  | .writeTiming image => image.check.isNone
  | .writeDevice image => image.check.isNone
  | .writeClass _ image => image.check.isNone
  | .writeRoute _ image => image.wf
  | .probeFrameReceived _ port => decide (port.toNat < 16)
  | .windowWrite offset size _ => windowAccess offset size
  | .jump target => decide (target.toNat % 16 = 0)
  | .imageWriteIssued bytes => decide (bytes ≠ 0)
  | .powerOnReset | .warmReset _ | .millisecondTick _ | .reportFrameBegin _ | .reportFrameEnd _ | .lineTurn
  | .maintenanceTurn | .run _ | .suspend _ | .stop _ | .readLine _ _ | .clearHoldExpiry _
  | .silenceExpiry _ | .readHop _ | .retireHop _ | .clearHopCounts _ | .placeHold _ _
  | .releaseHold _ | .readHolds | .writeProfiles _ | .readProfiles | .retirePath _
  | .restartEstimate _ | .readPath _ | .referencePulse | .holdoverEntry | .setTime _
  | .adjustTime _ | .readTime | .stepSignalProbeEngine | .stepSignalRouteTable
  | .probeTimerExpiry _ | .probeTransmitGrant | .frameTransmissionEnd | .echoTimeout _
  | .readDevice _ | .reRankTrigger _ | .recomputation | .readClass _ | .collect | .retireRoute _
  | .readRoute _ | .steeringRequestWord _ | .lookupComputation | .answerWordTaken | .start | .halt
  | .ack | .channelClear | .configurationWrite _ | .blockFetchComplete _ _ | .dataReadComplete _ _
  | .skippedBlockFetchComplete _ _ | .busMasterReadTimeout | .interruptMessage _ | .oscillatorPeriod
  | .reportClockEdge _ _ | .frameFirstByteArrival => true

end Sys2Proof
end

