-- ==== Sys2Proof/Tests/Slice0.lean ====
section
/-! SUPPORT. Tests: the well-formedness smoke test, the spec's worked figures on single operations and single
steps, and for every statement with hypotheses a concrete state and operands that meet them. -/

namespace Sys2Proof.Tests

-- One thread for all tests: the kernel checks of many small theorems at once take much stack memory.
set_option Elab.async false

open Sys2Proof Sys2Proof.Machine

/-- The state after a command. -/
def after (c : Instr) (s : State) : State :=
  match exec c s with
  | .next t => t
  | _ => s

/-! ## Well-formed commands: each check refuses an ill-formed term -/

def hopImage : HopImage := ⟨4, 6, 50, 120, 10, 3, 2000, 500, 90000, 200⟩

def pathImage : PathImage :=
  ⟨1, 2, 7, 2, 0, 100, 20, 2, 3, 2000, 0, 0, #v[3, 5, 0, 0, 0, 0, 0, 0, 0, 0, 0, 0]⟩

def fibreImage : PathImage := { pathImage with kind := 2, fibreLatency := 5604000, fibreRate := 10000 }

def routeImage : RouteImage := ⟨2, 1, 256, 40, #v[10, 11, 0, 0, 0, 0, 0, 0]⟩

def classImage : ClassImage := ⟨1, 0, 1, 100, 50000⟩

theorem test_wf_accepts :
    ([.millisecondTick .supervision, .writeHop 0 hopImage, .writePath 0 pathImage, .writePath 0 fibreImage,
      .writeTiming ⟨1000000, 7, 7⟩, .writeDevice ⟨3, 4095⟩, .writeClass 3 classImage,
      .writeRoute 3 routeImage, .probeFrameReceived [] 15, .windowWrite 0 8 0, .windowWrite 60 4 0,
      .jump 0x2000, .imageWriteIssued 1] : List Instr).all Instr.wf = true := by decide

theorem test_wf_refuses_operands :
    ([.writeTiming ⟨1000001, 7, 7⟩, .writeTiming ⟨0, 8, 0⟩,
      .writeTiming ⟨0, 0, 8⟩, .writeDevice ⟨3, 4096⟩, .writeClass 3 { classImage with ordering := 2 },
      .writeClass 3 { classImage with maxHold := 1048576 }, .probeFrameReceived [] 16,
      .windowWrite 2 4 0, .windowWrite 4 8 0, .windowWrite 0 2 0, .windowWrite 64 4 0, .jump 0x2008,
      .imageWriteIssued 0] : List Instr).all (fun i => !i.wf) = true := by decide

theorem test_wf_refuses_hop_images :
    ([{ hopImage with line := 8 }, { hopImage with nominal := 0 }, { hopImage with nominal := 8 },
      { hopImage with clear := 49 }, { hopImage with badLimit := 16 },
      { hopImage with propagation := 1048576 }, { hopImage with regeneration := 4096 }] :
      List HopImage).all (fun i => !(Instr.writeHop 0 i).wf) = true := by decide

theorem test_wf_refuses_path_images :
    ([{ pathImage with kind := 0 }, { pathImage with port := 16 }, { pathImage with farId := 0 },
      { pathImage with interval := 1001 }, { pathImage with lossLimit := 16 }, { pathImage with shift := 8 },
      { pathImage with hopCount := 0 }, { pathImage with hopCount := 13 },
      { pathImage with hops := pathImage.hops.set 1 64 }, { pathImage with hops := pathImage.hops.set 1 3 },
      { fibreImage with fibreLatency := 16777216 }, { fibreImage with fibreRate := 0 }] :
      List PathImage).all (fun i => !(Instr.writePath 0 i).wf) = true := by decide

theorem test_wf_refuses_route_images :
    ([{ routeImage with count := 9 }, { routeImage with fallbackPresent := 2 },
      { routeImage with candidates := routeImage.candidates.set 1 128 },
      { routeImage with fallback := 128 }, { routeImage with candidates := routeImage.candidates.set 1 10 },
      { routeImage with refLength := 16384 }] :
      List RouteImage).all (fun i => !(Instr.writeRoute 0 i).wf) = true := by decide

/-! ## Words: the table gives no row bits -/

theorem test_table_words_spell_none : decodeTableWord 16 0x1234 = none := rfl

theorem test_fetch_word_changes_nothing : State.reset.withFetchWord 32 5 = State.reset := rfl

/-! ## The spec's worked figures -/

/-- 10.1, "Encoding one report": A5 16 C8 00 8C 00 37 BA. -/
theorem test_report_frame :
    let f : BitVec 64 := 0xA516C8008C0037BA
    frameSync f = 0xA5 ∧ frameSum f = 0 ∧ frameHop f = 22 ∧ frameLine f = 4 ∧
      frameReport f = ⟨6, false, 140, 0⟩ := by decide

/-- R116, the rounding table. -/
theorem test_rounded_shift :
    837440 + roundedShift (837781 - 837440) 3 = 837483 ∧ 837440 + roundedShift (837099 - 837440) 3 = 837397 ∧
      837440 + roundedShift (837100 - 837440) 3 = 837398 := by decide

/-- R62: an estimate of 19,214,407 sixteenths gives 1,200,900 ns, one of 19,214,408 gives 1,200,901 ns. -/
theorem test_rounded_estimate :
    roundedEstimate 19214407 = 1200900 ∧ roundedEstimate 19214408 = 1200901 ∧
      roundedEstimate 268435455 = 16777215 := by decide

/-- 7.9 and 8.7: serialization of 256 and 64 bytes at 150, 300 and 10,000 Mbit/s. -/
theorem test_serialization :
    serialization 256 150 = 13654 ∧ serialization 256 300 = 6827 ∧ serialization 256 10000 = 205 ∧
      serialization 64 150 = 3414 ∧ serialization 64 300 = 1707 ∧ serialization 1 65535 = 1 := by decide

/-- 6.12: the sample of one echo, and the estimate it moves. -/
theorem test_sample_and_filter :
    sample (7831060 - 6250) (BitVec.ofInt 16 (-40)) 150 = 62543216 ∧
      (((Path.vacant 0 0) : Path).startEstimate 62544000).estimate = 62544000 ∧
      (({ Path.vacant 0 0 with
          config := { PathConfig.zero with shift := 3, rejectWindow := 2000 }, estimate := 62544000
          status := .steady, accepted := 8 } : Path).filter 62543216).estimate = 62543902 := by decide

/-- 6.12: the fourth rejected sample in a row restarts the estimate from itself. -/
theorem test_fourth_outlier_restarts :
    let x : Path :=
      { Path.vacant 0 0 with
        config := { PathConfig.zero with shift := 3, rejectWindow := 2000 }, estimate := 62543902
        status := .steady, accepted := 8, outlier := 3 }
    (x.filter 62585016).estimate = 62585016 ∧ (x.filter 62585016).status = .settling ∧
      (x.filter 62585016).outlier = 0 := by decide

/-- R81: an error of exactly half a second is taken as behind the following second. -/
theorem test_pulse_error :
    pulseError 5500000000 = -500000000 ∧ pulseError 5499999999 = 499999999 ∧
      pulseError 1650000014 = -349999986 := by decide

/-- 5.10, P2 and P9: the two adjustments after a pulse that corrects by rate. -/
theorem test_rate_correction :
    let t : TimeBase := { TimeBase.initial with state := .tracking }
    (t.correctRate 37).aInt = -5 ∧ (t.correctRate 37).aApp = -42 ∧
      ({ t with aInt := -22 }.correctRate (-4985)).aInt = 601 ∧
      ({ t with aInt := -22 }.correctRate (-4985)).aApp = 5586 := by decide

/-- 8.7, tags 3 and 5: the bounded choice with the smaller hold, and the waived choice. -/
theorem test_chosen_offers :
    let c64 : List Contender := [⟨10, 3915814, false⟩, ⟨11, 3920407, false⟩]
    chooseOffer 2400 50000 (c64.map (offer 2400 (some 3928100))) =
        some ⟨⟨11, 3920407, false⟩, 7693, 3928100, 5293, false⟩ ∧
      chooseOffer 4400 50000 (c64.map (offer 4400 (some 4028767))) =
        some ⟨⟨10, 3915814, false⟩, 4400, 3920214, 0, true⟩ := by decide

/-- R184: the fields of two request words, with the ignored bits set; a length of 0 is taken as 1. -/
theorem test_request_words :
    requestTag 0x07E3FFFD = 7 ∧ requestSite 0x07E3FFFD = 3 ∧ requestClass 0x07E3FFFD = 1 ∧
      requestLength 0xFFFFC000 = 1 ∧ requestLength 0xFFFFC040 = 64 := by decide

/-- R185: word 0 of an answer, and its departure words. -/
theorem test_answer_words :
    let a : Answer := ⟨3, .ok, false, false, false, true, 11, 5, 0x100001E0D, 3928100, 5293⟩
    a.word 0 = 0x03080B05 ∧ a.word 1 = 1 ∧ a.word 2 = 0x1E0D ∧ a.word 5 = 5293 := by decide

/-- R186: the fields of a request block. -/
theorem test_request_block :
    let b := parseBlock 0x1000 0x0000000000002000_0018_0007_0016_15_11
    b.code = 0x11 ∧ b.flags = 0x15 ∧ b.index = 22 ∧ b.generation = 7 ∧ b.count = 24 ∧
      b.dataAddress = 0x2000 ∧ b.chain = true ∧ b.skip = false ∧ b.gen = true ∧ b.slen = false ∧
      b.note = true := by decide

/-- R187: 28 requests with distinct codes. -/
theorem test_catalogue : catalogue.length = 28 ∧ (catalogue.map CatalogueRow.code).Nodup := by decide

/-- R191: the WRITE-HOP layout. -/
theorem test_hop_image_layout :
    parseHopImage 0x00C8_00015F90_01F4_07D0_03_0A_0078_0032_06_04 = hopImage := by decide

/-- 10.7: the READ-ROUTE image of route 3 of the worked sequence, and the notice of the route. -/
theorem test_route_image_layout :
    let r : Route :=
      { Route.vacant 1 with
        state := .normal, candidates := [10, 11], fallback := some 40, refLength := 256, choice := some 11
        latency := 3932354 }
    r.image.take 5 = [1, 0, 0, 1, 0x0B] ∧
      (r.image.drop 8).take 10 = [2, 1, 0x00, 0x01, 0x28, 0, 0, 0, 0x0A, 0x0B] ∧
      (r.image.drop 24).take 4 = [0xC2, 0x00, 0x3C, 0x00] ∧ imageField r.image 24 4 = 3932354 ∧
      routeNotice 3 r = [2, 3, 1, 1, 0x0B, 0, 0, 0] := by decide

/-- R183: a built frame has 64 bytes that sum to 0 and reads back. -/
theorem test_built_frame :
    (buildFrame 1 3 7 2 10 500 0x1122334455667788 0 0).length = 64 ∧
      halfwordSum (buildFrame 1 3 7 2 10 500 0x1122334455667788 0 0) = 0 ∧
      parseFrame (buildFrame 1 3 7 2 10 500 0x1122334455667788 0 0) =
        ⟨1, 3, 7, 10, 500, 0x1122334455667788, 0, 0⟩ := by decide +kernel

/-! ## A small network -/

/-- An in-service hop on line 4 in CLEAR with profile 6 (2.11). -/
def clearHop : Hop :=
  ⟨.clear, ⟨4, 6, 50, 120, 10, 3, 2000, 500, 90000, 200⟩, 6, 180, 0, 0, 0, none, 100, 0, 1, false⟩

/-- A FADED hop whose next tick brings its clear-hold timer to the restore time and its silence timer to the silence
limit. -/
def fadedHop : Hop := { clearHop with state := .faded, bad := 3, clearHold := some 1999, silence := 499 }

/-- A MICROWAVE path over hops 22 and 24, probed every 100 ms. -/
def radioPath : Path :=
  ⟨.microwave [22, 24], ⟨2, 7, 0, 100, 20, 2, 2000, 3⟩, 62544000, .steady, 8, 0, 1, false, 500, some 40, 1⟩

/-- A FIBRE path. -/
def fibrePath : Path :=
  ⟨.fibre 5604000 10000, ⟨9, 7, 0, 0, 20, 2, 0, 3⟩, 0, .none, 0, 0, 0, false, 0, none, 1⟩

/-- A route with candidate 10 and fallback 40, standing on its candidate (7.9). -/
def siteRoute : Route :=
  ⟨.normal, [10], some 40, 256, some 10, 3923000, #v[⟨true, 3916214⟩, ⟨false, 0⟩, ⟨false, 0⟩, ⟨false, 0⟩],
    ⟨1, 0, 0, 0⟩, false, false, 1⟩

/-- A route with no fallback. -/
def loneRoute : Route := { siteRoute with fallback := none }

/-- The network: hops 22 and 24, path 10 over them, fibre path 40, routes 3 and 4, a probe of path 10 waiting in
slot 0, the time base TRACKING in epoch 5, line 4 RUNNING, one tick delivered to every place. -/
def net : State :=
  { State.reset with
    lines := State.reset.lines.set 4 { Line.initial false with state := .running }
    hops := (State.reset.hops.set 22 clearHop).set 24 clearHop
    paths := (State.reset.paths.set 10 radioPath).set 40 fibrePath
    routes := (State.reset.routes.set 3 siteRoute).set 4 loneRoute
    time :=
      { TimeBase.initial with
        state := .tracking, count := 5000000037, epoch := 5, supervision := some 1000 }
    ticks := Ticks.none.deliver
    routeTaken := 5
    probe :=
      { ProbeEngine.initial with
        slots := (Vector.replicate 32 Slot.free).set 0 (.queued 10 499)
        terminalId := 3, lead := 400, taken := 5 } }

/-- The network with the front lookup at site 3. -/
def asked (c : ClassIndex) : State :=
  { net with steering := { SteeringPort.initial with queue := [⟨1, 3, c, 64, 5000000000, true, 5⟩] } }

/-- The network with a frame for hop 22 in the buffer of line 4. -/
def buffered (f : BitVec 64) : State :=
  net.setLine 4 { net.lines[(4 : LineIndex)] with buffer := some ⟨f, 7⟩ }

/-- The network with the channel at work. -/
def working (w : Work) : State :=
  net.setChan { Channel.initial with state := .running, busMaster := true, work := w }

/-- A block of a list: READ-TIME, CHAIN. -/
def readTimeBlock : Block := ⟨0x1000, 0x62, 1, 0, 0, 32, 0x8000, 0⟩

theorem net_held (i : HopIndex) : net.held i = false := by
  have : net.holds = Vector.replicate 8 none := rfl
  simp [State.held, heldBy, this]

theorem net_hops (i : HopIndex) : net.hops[i] =
    if i = 24 then clearHop else if i = 22 then clearHop else Hop.vacant 0 := by
  have : net.hops = (State.reset.hops.set (22 : HopIndex) clearHop).set (24 : HopIndex) clearHop := rfl
  rw [this, table_set, table_set]
  simp [State.reset]

theorem net_paths (p : PathIndex) : net.paths[p] =
    if p = 40 then fibrePath else if p = 10 then radioPath else Path.vacant 0 0 := by
  have : net.paths = (State.reset.paths.set (10 : PathIndex) radioPath).set (40 : PathIndex) fibrePath := rfl
  rw [this, table_set, table_set]
  simp [State.reset]

theorem net_routes (r : RouteIndex) : net.routes[r] =
    if r = 4 then loneRoute else if r = 3 then siteRoute else Route.vacant 0 := by
  have : net.routes = (State.reset.routes.set (3 : RouteIndex) siteRoute).set (4 : RouteIndex) loneRoute := rfl
  rw [this, table_set, table_set]
  simp [State.reset]

theorem net_slots (k : SlotIndex) : net.probe.slots[k] = if k = 0 then Slot.queued 10 499 else .free := by
  have : net.probe.slots = (Vector.replicate 32 Slot.free).set (0 : SlotIndex) (.queued 10 499) := rfl
  rw [this, table_set]
  simp

/-- One tick is delivered to every place of the network. -/
theorem net_owed (x : TickPlace) : net.ticks.owed x = 1 := by
  have : net.ticks = Ticks.none.deliver := rfl
  simp [this]

/-! ### The network is sound -/

theorem reset_time_sound : State.reset.time.sound :=
  ⟨by decide, by decide, by decide, by decide, by decide, by decide, by decide, by decide, rfl⟩

theorem net_time_sound : net.time.sound := by
  refine ⟨by decide, by decide, by decide, by decide, by decide, by decide, by decide, by decide, ?_⟩
  exact ⟨1000, rfl, by decide⟩

theorem net_attentionSound : net.attentionSound := by
  unfold State.attentionSound
  decide +kernel

theorem net_holdsSound : net.holdsSound := by
  have : ∀ k : LevelIndex, net.holds[k] = none := by decide
  intro j k _ h
  rw [this] at h
  cases h

theorem net_hopsSound : net.hopsSound := by
  have h : clearHop.counterSound ∧ clearHop.timersSound false :=
    ⟨show clearHop.bad < clearHop.config.effectiveBadLimit by decide, by unfold Hop.timersSound; decide⟩
  intro i
  rw [net_held, net_hops]
  split
  · exact h
  · split
    · exact h
    · exact ⟨rfl, by unfold Hop.timersSound; decide⟩

theorem rangesSound_of (x : Path) (v : Option Nat) (hv : x.timer = v)
    (h : x.estimate ≤ Config.estimateMax ∧ x.accepted ≤ Config.steadyCount ∧ x.outlier ≤ Config.outlierLimit ∧
      x.loss ≤ x.config.effectiveLossLimit ∧ x.config.interval.toNat ≤ Config.intervalMax)
    (ht : v.isSome ↔ x.body ≠ .vacant ∧ x.config.interval ≠ 0) 
    (hm : ∀ w, v = some w → 1 ≤ w ∧ w ≤ Config.slowIntervalMax) : x.rangesSound := by
  exact ⟨h.1, h.2.1, h.2.2.1, h.2.2.2.1, h.2.2.2.2, hv ▸ ht, fun w hw => hm w (hv ▸ hw)⟩

theorem net_pathsSound : net.pathsSound := by
  intro p
  rw [net_paths]
  split
  · exact ⟨by simp [State.bodySound, fibrePath],
      rangesSound_of _ none rfl (by decide) (by simp [fibrePath]) nofun⟩
  · split
    · refine ⟨⟨by decide, by decide, by decide, ?_⟩,
        rangesSound_of _ (some 40) rfl (by decide) (by simp [radioPath]) (by rintro w ⟨⟩; decide)⟩
      intro h hh
      rw [net_hops]
      fin_cases hh <;> decide
    · exact ⟨trivial, rangesSound_of _ none rfl (by decide) (by simp [Path.vacant]) nofun⟩

theorem net_slotsSound : net.slotsSound := by
  refine ⟨?_, ?_, fun k p q t1 n g h => ?_⟩
  · intro k p h
    rw [net_slots] at h
    split at h
    · injection h with h
      subst h
      rw [net_paths]
      decide
    · cases h
  · intro j k hjk h
    rw [net_slots] at h ⊢
    rw [net_slots]
    split at h
    · rename_i e
      rw [if_pos e, if_neg (fun e' => hjk (e.trans e'.symm))]
      decide
    · cases h
  · rw [net_slots] at h
    split at h <;> cases h

theorem net_referencesSound (r : Route) (h : r.candidates = [10] ∧ (r.fallback = some 40 ∨ r.fallback = none)) :
    net.referencesSound r := by
  obtain ⟨h1, h2⟩ := h
  refine ⟨by simp [h1], by simp [h1], ?_, ?_⟩
  · intro p hp
    rw [h1, List.mem_singleton] at hp
    subst hp
    rw [net_paths]
    decide
  · intro p hp
    rcases h2 with h2 | h2 <;> rw [h2] at hp
    · injection hp with hp
      subst hp
      rw [net_paths]
      decide
    · cases hp

theorem net_routesSound : net.routesSound := by
  intro i
  rw [net_routes]
  split
  · exact ⟨net_referencesSound _ (by decide), ⟨10, by decide, rfl⟩⟩
  · split
    · exact ⟨net_referencesSound _ (by decide), ⟨10, by decide, rfl⟩⟩
    · exact ⟨⟨by decide, by decide, by simp [Route.vacant], by simp [Route.vacant]⟩, rfl⟩

theorem net_queuesSound : net.queuesSound :=
  ⟨by decide, by decide, fun a h => by simp [net, State.reset, SteeringPort.initial] at h⟩

theorem net_chan_sound : net.chan.sound := by
  unfold Channel.sound
  decide

/-! ## Witnesses: for each statement with hypotheses, a state and operands that meet them, clause by clause -/

theorem witness_StepRunsFrontCommand :
    ({ net with pending := [.start, .halt] } : State).pending = .start :: [.halt] := rfl

theorem witness_WarmResetLeavesRoutesOnFallbackOrDark :
    net.pathsSound ∧ net.routesSound ∧ net.routes[(3 : RouteIndex)].state ≠ .vacant ∧
      net.routes[(3 : RouteIndex)].fallback.isSome ∧ net.routes[(4 : RouteIndex)].state ≠ .vacant ∧
      net.routes[(4 : RouteIndex)].fallback = none :=
  ⟨net_pathsSound, net_routesSound, by rw [net_routes]; decide, by rw [net_routes]; decide,
    by rw [net_routes]; decide, by rw [net_routes]; decide⟩

/-- A line with a frame of `n` bits in the stage. -/
def gathering (admitted : Bool) (bits : BitVec 64) (n : Nat) : State :=
  net.setLine 4 { net.lines[(4 : LineIndex)] with frameSelect := true, stage := some ⟨admitted, bits, n⟩ }

theorem witness_FrameBeginsAndGathersBits :
    (net.lines[(4 : LineIndex)].frameSelect = false ∧ net.lines[(4 : LineIndex)].stage = none) ∧
    ((gathering true 1 64).lines[(4 : LineIndex)].frameSelect = true ∧
      (gathering true 1 64).lines[(4 : LineIndex)].stage = some ⟨true, 1, 64⟩) := by decide

theorem witness_FrameEndIsDealtWithByFirstCase :
    net.lines[(4 : LineIndex)].stage = none ∧
      (∀ n ∈ [63, 64, 65], ∀ a ∈ [true, false],
        (gathering a 0xA516C8008C0037BA n).lines[(4 : LineIndex)].frameSelect = true ∧
          (gathering a 0xA516C8008C0037BA n).lines[(4 : LineIndex)].stage =
            some ⟨a, 0xA516C8008C0037BA, n⟩) ∧
      (0xA516C8008C0037BA : BitVec 64).extractLsb' 56 8 = 0xA5 ∧
      frameByteSum 0xA516C8008C0037BA % 256 = 0 := by decide

theorem witness_LineRequestsActOnTheLine :
    (gathering true 0 5).lines[(4 : LineIndex)].state = .running ∧
      (∃ g, (gathering true 0 5).lines[(4 : LineIndex)].stage = some g ∧ g.admitted = true) ∧
      net.lines[(4 : LineIndex)].state = .running ∧
      (∀ g, net.lines[(4 : LineIndex)].stage = some g → g.admitted = false) ∧
      net.lines[(0 : LineIndex)].state ≠ .running :=
  by
  refine ⟨by decide, ⟨⟨true, 0, 5⟩, by decide, rfl⟩, by decide, fun g h => ?_, by decide⟩
  have e : net.lines[(4 : LineIndex)].stage = none := by decide
  rw [e] at h
  cases h

/-- 1.8: with lines 1 and 6 and the channel requesting, the pointer at 6 grants 6. -/
theorem witness_ArbiterGrantsFirstFromPointer :
    let x : Line := { Line.initial false with buffer := some ⟨0, 0⟩ }
    let s : State := ((working (.applying readTimeBlock (.readHop 22))).setLine 1 x).setLine 6 x
    (s.setArbiter 6).granted = some 6 ∧ (s.setArbiter 7).granted = some 8 ∧
      (s.setArbiter 0).granted = some 1 ∧ net.granted = none := by decide

/-- Hop 64; VACANT hop 63; hop 22 with the right line field; hop 22 with another line field. -/
theorem witness_LineTurnDealsWithBufferedFrame :
    (∀ f : BitVec 64, (buffered f).granted = some ((4 : LineIndex).castSucc) ∧
        (buffered f).lines[(4 : LineIndex)].buffer = some ⟨f, 7⟩) ∧
      64 ≤ ((0xA540C8008C003700 : BitVec 64).extractLsb' 48 8).toNat ∧
      ((63 : HopIndex).val = ((0xA53FC8008C003700 : BitVec 64).extractLsb' 48 8).toNat ∧
        net.hops[(63 : HopIndex)].state = .vacant) ∧
      ((22 : HopIndex).val = ((0xA516C8008C0037BA : BitVec 64).extractLsb' 48 8).toNat ∧
        net.hops[(22 : HopIndex)].state ≠ .vacant ∧
        ((0xA516C8008C0037BA : BitVec 64).extractLsb' 41 3).toNat = net.hops[(22 : HopIndex)].config.line.val ∧
        ((0xA516CA008C0037B8 : BitVec 64).extractLsb' 41 3).toNat ≠
          net.hops[(22 : HopIndex)].config.line.val) :=
  ⟨fun _ => ⟨rfl, rfl⟩, by decide, by decide, by decide⟩

/-- At the fade threshold a report is MARGINAL, below it BAD; at the clear threshold GOOD. -/
theorem witness_ReportMovesHopByStateSummary :
    clearHop.state ≠ .vacant ∧ fadedHop.state ≠ .vacant ∧
      classify clearHop.config ⟨6, false, 49, 0⟩ = .bad ∧
      classify clearHop.config ⟨6, false, 50, 10⟩ = .marginal ∧
      classify clearHop.config ⟨6, false, 50, 11⟩ = .bad ∧
      classify clearHop.config ⟨6, false, 120, 10⟩ = .good ∧
      classify clearHop.config ⟨5, false, 120, 10⟩ = .marginal ∧
      classify clearHop.config ⟨0, false, 120, 10⟩ = .bad := by decide

/-- Each hop request waits; its turn is next, or a line's buffer is met first. -/
theorem witness_MaintenanceTurnAppliesWaitingRequest :
    (∀ c ∈ [Instr.readHop 22, .writeHop 22 hopImage, .retireHop 22, .clearHopCounts 22],
      (working (.applying readTimeBlock c)).granted = some 8 ∧
        (working (.applying readTimeBlock c)).chan.work = .applying readTimeBlock c ∧
        ((working (.applying readTimeBlock c)).setLine 1
          { Line.initial false with buffer := some ⟨0, 0⟩ }).granted ≠ some 8) ∧
      (working (.applying readTimeBlock (.readHop 63))).granted = some 8 := by
  decide

theorem net_waitsFor (i : Instr) : ¬ net.waitsFor i := by
  rintro ⟨b, h⟩
  cases h

theorem witness_WriteHopSetsTheRecord :
    ¬ net.waitsFor (.writeHop 22 hopImage) ∧ hopImage.check = none ∧
      ({ hopImage with line := 8 } : HopImage).check = some .line ∧
      net.hops[(63 : HopIndex)].state = .vacant ∧ net.hops[(22 : HopIndex)].state ≠ .vacant :=
  ⟨net_waitsFor _, by decide, by decide, by decide, by decide⟩

theorem witness_RetireClearAndReadHop :
    ¬ net.waitsFor (.retireHop 22) ∧ (∃ p : PathIndex, (22 : HopIndex) ∈ net.paths[p].body.hops) ∧
      (∀ p : PathIndex, (63 : HopIndex) ∉ net.paths[p].body.hops) ∧ ¬ net.waitsFor (.clearHopCounts 22) ∧
      ¬ net.waitsFor (.readHop 22) := by
  refine ⟨net_waitsFor _, ⟨10, by rw [net_paths]; decide⟩, fun p => ?_, net_waitsFor _, net_waitsFor _⟩
  rw [net_paths]
  split
  · decide
  · split <;> decide

/-- No tick owed; and the hop, slot, path, supervision and channel timers at and below the tick that reaches them:
both timers of a hop, one alone, and none. -/
theorem witness_TimersAdvanceAndExpire :
    (∀ x, State.reset.ticks.owed x = 0) ∧ (∀ x, net.ticks.owed x ≠ 0) ∧
      (let s : State := net.setHop 22 fadedHop
       let h : Hop := s.hops[(22 : HopIndex)]
       s.held 22 = false ∧ h.state = .faded ∧ h.clearHold = some 1999 ∧ h.silence = 499 ∧
         max h.config.restore.toNat 1 = 2000 ∧ h.config.silence.toNat = 500 ∧
         s.lines[h.config.line].state = .running) ∧
      ({ fadedHop with silence := 498 } : Hop).silence + 1 < 500 ∧
      ({ fadedHop with clearHold := some 1998 } : Hop).clearHold = some 1998 ∧
      (net.hops[(22 : HopIndex)].state = .clear ∧ net.hops[(22 : HopIndex)].silence + 1 < 500) ∧
      (net.setSlot 31 (.sent 10 498 7 2 1)).probe.slots[(31 : SlotIndex)] = .sent 10 498 7 2 1 ∧
      net.paths[(10 : PathIndex)].timer = some 40 ∧
      (net.probe.slots[(31 : SlotIndex)] = .free ∧ net.paths[(127 : PathIndex)].timer = none) ∧
      (working (.fetching 9 0x1000 48 false)).chan.work.waited < 49 ∧
      (working (.reading 9 readTimeBlock 48)).chan.work.waited < 49 := by
  refine ⟨Ticks.owed_none, fun x => by rw [net_owed]; decide, ?_⟩
  decide

/-- Both expiries of a hop due. -/
theorem witness_HopExpiryOrderIsImmaterial :
    let s : State := net.setHop 22 { fadedHop with clearHold := some 2000, silence := 500 }
    s.hops[(22 : HopIndex)].clearHoldDue (s.held 22) = true ∧
      s.hops[(22 : HopIndex)].silenceDue (s.held 22) (s.lineRunning s.hops[(22 : HopIndex)].config.line) =
        true := by decide

/-- 3.7: level 0 placed with hops 3 and 4. -/
def held : State := { net with holds := net.holds.set 0 (some 0x400018) }

theorem witness_PlaceHoldPlacesOnTop :
    held.holds[(0 : LevelIndex)] ≠ none ∧
      (held.holds[(2 : LevelIndex)] = none ∧ (1 : LevelIndex).val + 1 = (2 : LevelIndex).val ∧
        held.holds[(1 : LevelIndex)] = none) ∧
      (held.holds[(1 : LevelIndex)] = none ∧
        ∀ j : LevelIndex, j.val + 1 = (1 : LevelIndex).val → held.holds[j] ≠ none) ∧
      (net.holds[(0 : LevelIndex)] = none ∧
        ∀ j : LevelIndex, j.val + 1 = (0 : LevelIndex).val → net.holds[j] ≠ none) := by decide

theorem witness_ReleaseHoldFreesLevelAndAbove :
    held.holds[(7 : LevelIndex)] = none ∧ held.holds[(0 : LevelIndex)] ≠ none := by decide

/-- A failing image; one with the same hop list, one with another; and a fibre path rewritten as one. -/
theorem witness_WritePathKeepsOrRenewsTheEstimate :
    let hops : PathImage → List HopIndex := fun i =>
      (i.hops.toList.take i.hopCount.toNat).map fun b => Fin.ofNat 64 b.toNat
    let same : PathImage := { pathImage with hops := #v[22, 24, 0, 0, 0, 0, 0, 0, 0, 0, 0, 0] }
    let other : PathImage := { pathImage with hops := #v[24, 22, 0, 0, 0, 0, 0, 0, 0, 0, 0, 0] }
    ({ pathImage with port := 16 } : PathImage).check 10 net = some .port ∧
      (same.check 10 net = none ∧ same.kind = 1 ∧
        net.paths[(10 : PathIndex)].body = .microwave (hops same)) ∧
      (other.check 10 net = none ∧ net.paths[(10 : PathIndex)].body ≠ .microwave (hops other)) ∧
      (fibreImage.check 40 net = none ∧ fibreImage.kind ≠ 1 ∧
        net.paths[(40 : PathIndex)].body = .fibre 5604000 10000) := by
  decide +kernel

theorem witness_RetirePathLeavesNoReference : net.routesSound ∧ (10 : PathIndex) ∈ siteRoute.candidates :=
  ⟨net_routesSound, by decide⟩

theorem witness_RestartEstimateAndReadPath :
    net.paths[(10 : PathIndex)].body ≠ .vacant ∧ net.paths[(127 : PathIndex)].body = .vacant := by decide

theorem witness_PathFiguresFollowTheirHops :
    1 ≤ 65535 ∧ ((7 : BitVec 3).toNat = (6 : Fin 7).val + 1 ∧ (1 : BitVec 3).toNat = (0 : Fin 7).val + 1) ∧
      net.paths[(10 : PathIndex)].body = .microwave [22, 24] ∧ ([22, 24] : List HopIndex) ≠ [] ∧
      net.paths[(40 : PathIndex)].body = .fibre 5604000 10000 ∧ (10000 : Half) ≠ 0 ∧
      net.paths[(0 : PathIndex)].body = .vacant := by
  decide

theorem witness_PeriodsAdvanceTimeExactly :
    (∀ f a : Int, (f = 999999999 ∧ a = 1) ∨ (f = 0 ∧ a = -1) ∨ (f = 0 ∧ a = 0) →
      1000000000 ≤ f + 8 * a ∨ f + 8 * a < 0 ∨ (0 ≤ f + 8 * a ∧ f + 8 * a < 1000000000)) ∧
    (State.reset.time.periods + 1 < 125000 ∧
      125000 ≤ ({ TimeBase.initial with periods := 124999 } : TimeBase).periods + 1) ∧
    ∀ n : Nat, ∃ run : Nat → State, (run 0).time.sound ∧
      ∀ k < n, exec .oscillatorPeriod (run k) = .next (run (k + 1)) := by
  refine ⟨by omega, by decide, fun n => ⟨fun k => (after .oscillatorPeriod)^[k] State.reset, reset_time_sound,
    fun k _ => ?_⟩⟩
  simp only [Function.iterate_succ_apply']
  rfl

/-- The count of `net` is 37 ns past a whole second; 5.10's P1 is 349,999,986 ns short of one. -/
theorem witness_ReferencePulseDisciplinesTheCount :
    ((net.time.count.toNat : Int) - 37 = 1000000000 * 5 ∧ net.time.state ≠ .unset ∧
        (∀ v < 500, net.time.supervision ≠ some v) ∧ (37 : Int).natAbs ≤ max net.time.stepLimit.toNat 1) ∧
      (let t : TimeBase := { net.time with count := 1650000014 }
       (t.count.toNat : Int) - (-349999986) = 1000000000 * 2 ∧
         max t.stepLimit.toNat 1 < (-349999986 : Int).natAbs) ∧
      State.reset.time.state = .unset ∧
      (∃ v < 500, ({ net.time with supervision := some 499 } : TimeBase).supervision = some v) ∧
      (net.ticks.owed .supervision ≠ 0 ∧ net.time.state = .tracking ∧
        ({ net.time with supervision := some 1499 } : TimeBase).supervision = some 1499) := by
  refine ⟨⟨by decide, by decide, ?_, by decide⟩, ⟨by decide, by decide⟩, by decide, ⟨499, by decide, rfl⟩,
    by decide, by decide, rfl⟩
  intro v hv h
  have : (1000 : Nat) = v := Option.some.inj h
  omega

theorem witness_TimeRequestsSetTheTimeBase :
    State.reset.time.state = .unset ∧ net.time.state ≠ .unset ∧
      (⟨1000001, 3, 0⟩ : TimingImage).check = some .stepLimit ∧
      (⟨1000000, 7, 7⟩ : TimingImage).check = none := by decide

theorem witness_StepSignalsInvalidateOldStamps :
    ({ net with probeSignals := [6, 7], routeSignals := [6] } : State).probeSignals = 6 :: [7] ∧
      ({ net with probeSignals := [6, 7], routeSignals := [6] } : State).routeSignals = 6 :: [] := by decide

theorem witness_ProbeTimersExpireAndEchoesTimeOut :
    (let s : State := net.setSlot 31 (.sent 10 498 7 1 1)
     s.ticks.owed (.slot 31) ≠ 0 ∧ s.probe.slots[(31 : SlotIndex)] = .sent 10 498 7 1 1 ∧
       s.paths[(10 : PathIndex)].generation = 1 ∧ s.paths[(10 : PathIndex)].lost = false ∧
       s.paths[(10 : PathIndex)].loss = 1 ∧ max s.paths[(10 : PathIndex)].config.lossLimit.toNat 1 = 2) ∧
      (net.setSlot 31 (.sent 10 498 7 1 0)).paths[(10 : PathIndex)].generation ≠ 0 ∧
      (let s : State := net.setPath 10 { radioPath with timer := some 1 }
       s.ticks.owed (.path 10) ≠ 0 ∧ s.paths[(10 : PathIndex)].body ≠ .vacant ∧
         s.paths[(10 : PathIndex)].config.interval ≠ 0 ∧
         s.paths[(10 : PathIndex)].timer = some 1 ∧ s.probe.terminalId ≠ 0 ∧ s.time.state ≠ .unset ∧
         (∀ j : SlotIndex, s.probe.slots[j].key? ≠ some (10, 500)) ∧
         s.probe.slots[(1 : SlotIndex)] = .free ∧ ∀ j < (1 : SlotIndex), s.probe.slots[j] ≠ .free) ∧
      (net.setSlot 31 (.queued 10 500)).probe.slots[(31 : SlotIndex)].key? = some (10, 500) ∧
      (∀ k : SlotIndex, (Vector.replicate 32 (Slot.queued 40 0))[k] ≠ .free) ∧
      State.reset.probe.terminalId = 0 ∧ net.paths[(40 : PathIndex)].config.interval = 0 := by decide +kernel

theorem witness_TransmitArbiterSendsEchoesBeforeProbes :
    (net.probe.transmitter = none ∧ net.probe.backlog = [] ∧
      net.probe.slots[(0 : SlotIndex)] = .queued 10 499 ∧
      ∀ j < (0 : SlotIndex), net.probe.slots[j].isQueued = false) ∧
      ({ net.probe with backlog := [⟨7, 1, 2, 3, 4, 5⟩] } : ProbeEngine).backlog = ⟨7, 1, 2, 3, 4, 5⟩ :: [] ∧
      net.time.epoch = net.probe.taken ∧ (6 : Epoch) ≠ net.probe.taken ∧
      ({ net.probe with transmitter := some [1] } : ProbeEngine).transmitter = some [1] := by decide

/-- The echo of a probe in SENT slot 31, one of an unknown probe, and a far probe. -/
theorem witness_ReceivedFrameIsDealtWithByFirstCase :
    let echo : List Byte := buildFrame 2 7 3 2 10 498 7 20 30
    let probe : List Byte := buildFrame 1 7 3 2 127 1 9 0 0
    (∀ b ∈ [echo, probe], b.length = 64 ∧ halfwordSum b = 0 ∧ (parseFrame b).destination = net.probe.terminalId) ∧
      (parseFrame echo).kind = 2 ∧ (parseFrame echo).seq = 498 ∧ (parseFrame echo).pathIndex.toNat = 10 ∧
      (parseFrame probe).kind = 1 ∧ (parseFrame probe).origin ≠ net.probe.terminalId ∧
      (buildFrame 3 7 3 2 10 498 7 20 30).length = 64 ∧ (parseFrame (buildFrame 3 7 3 2 10 498 7 20 30)).kind = 3 ∧
      (parseFrame (buildFrame 1 7 4 2 10 498 7 20 30)).destination ≠ net.probe.terminalId ∧
      (net.setSlot 31 (.sent 10 498 7 5 1)).probe.slots[(31 : SlotIndex)] = .sent 10 498 7 5 1 ∧
      ({ net.probe with receiving := some ⟨50, 5⟩ } : ProbeEngine).receiving = some ⟨50, net.probe.taken⟩ := by
  decide +kernel

theorem witness_ReceivedFrame_slotsSound : (net.setSlot 0 (.sent 10 499 7 5 1)).slotsSound := by
  have hs : ∀ k : SlotIndex, (net.setSlot 0 (.sent 10 499 7 5 1)).probe.slots[k] =
      if k = 0 then Slot.sent 10 499 7 5 1 else .free := by
    intro k
    have : (net.setSlot 0 (.sent 10 499 7 5 1)).probe.slots =
        net.probe.slots.set (0 : SlotIndex) (.sent 10 499 7 5 1) := rfl
    rw [this, table_set, net_slots]
    split <;> simp_all
  refine ⟨?_, ?_, fun k p q t1 n g h => ?_⟩
  · intro k p h
    rw [hs] at h
    split at h
    · injection h with h
      subst h
      exact (by rw [net_paths]; decide : net.paths[(10 : PathIndex)].body ≠ .vacant)
    · cases h
  · intro j k hjk h
    rw [hs] at h ⊢
    rw [hs]
    split at h
    · rename_i e
      rw [if_pos e, if_neg (fun e' => hjk (e.trans e'.symm))]
      decide
    · cases h
  · rw [hs] at h
    split at h <;> cases h
    decide

theorem witness_SampleMovesEstimateTowardsItself :
    radioPath.estimate ≤ 268435455 ∧ radioPath.status ≠ .none ∧ fibrePath.status = .none ∧
      radioPath.config.rejectWindow.toNat ≠ 0 ∧
      radioPath.config.rejectWindow.toNat * 16 < ((62585098 : Int) - radioPath.estimate).natAbs ∧
      ((62576000 : Int) - radioPath.estimate).natAbs ≤ radioPath.config.rejectWindow.toNat * 16 := by decide

theorem witness_DeviceRequestsWriteAndReadTheEngine :
    4095 < (⟨3, 4096⟩ : DeviceImage).lead.toNat ∧ (⟨3, 4095⟩ : DeviceImage).lead.toNat ≤ 4095 := by decide

theorem witness_TriggersMarkAndScanRecomputes :
    (Trigger.hop 22 ∈ ({ net with triggers := [.hop 22, .path 40, .all] } : State).triggers) ∧
      (∀ i : RouteIndex, State.reset.routes[i].rerank = false) ∧
      (let s : State := net.setRoute 3 { siteRoute with rerank := true }
       (3 : RouteIndex) = Fin.ofNat 32 (s.service.val + 3) ∧ s.routes[(3 : RouteIndex)].rerank = true ∧
         ∀ j < 3, s.routes[(Fin.ofNat 32 (s.service.val + j) : RouteIndex)].rerank = false) := by decide +kernel

/-- Each state a recomputation can leave. -/
theorem witness_RecomputationChoosesLeastLatency :
    (net.recomputed siteRoute).state = .normal ∧
      (net.recomputed { siteRoute with candidates := [] }).state = .fallback ∧
      (net.recomputed { loneRoute with candidates := [] }).state = .dark := by decide +kernel

theorem witness_ClassWriteAndCollect :
    ({ classImage with ordering := 2 } : ClassImage).check = some .switch ∧ classImage.check = none ∧
      ((net.setHop 63 { clearHop with attention := true }).hops[(63 : HopIndex)].attention = true ∧
        ∀ j < (63 : HopIndex), (net.setHop 63 { clearHop with attention := true }).hops[j].attention = false) ∧
      (∀ j : HopIndex, net.hops[j].attention = false) ∧
      ((net.setRoute 31 { siteRoute with attention := true }).routes[(31 : RouteIndex)].attention = true ∧
        ∀ j < (31 : RouteIndex),
          (net.setRoute 31 { siteRoute with attention := true }).routes[j].attention = false) ∧
      ∀ j : RouteIndex, net.routes[j].attention = false := by decide +kernel

theorem witness_RouteRequestsRewriteAndRetire :
    ({ routeImage with count := 9 } : RouteImage).check net = some .candidateCount ∧
      ({ routeImage with count := 1 } : RouteImage).check net = none := by decide +kernel

theorem witness_SteeringWordsPassInOrder :
    let q : Lookup := ⟨1, 3, 0, 64, 5000000000, true, 5⟩
    16 ≤ (⟨none, List.replicate 16 q, none⟩ : SteeringPort).queue.length ∧
      (⟨none, List.replicate 15 q, none⟩ : SteeringPort).queue.length < 16 ∧
      (⟨some 0x01030000, [], none⟩ : SteeringPort).request = some 0x01030000 ∧
      (∀ k ∈ [0, 4, 5], (⟨none, [], some ⟨Answer.empty 1 .noPath false, k⟩⟩ : SteeringPort).answer =
        some ⟨Answer.empty 1 .noPath false, k⟩) := by decide

/-- A VACANT route; one without contenders; a TIME-INVALID lookup; a time-valid one whose choice stands; and
8.7's tag 5, whose hold exceeds the maximum. -/
theorem witness_LookupIsAnsweredByTheRules :
    (asked 0).steering.answer = none ∧
      (asked 0).steering.queue = ⟨1, 3, 0, 64, 5000000000, true, 5⟩ :: [] ∧
      net.routes[(0 : RouteIndex)].state = .vacant ∧ net.routes[(3 : RouteIndex)].state ≠ .vacant ∧
      net.contenders { loneRoute with candidates := [] } 0 64 = [] ∧
      net.contenders siteRoute 0 64 = [⟨10, 3909000 + 1707, false⟩] ∧
      (let cs : List Contender := [⟨10, 3915814, false⟩, ⟨11, 3920407, false⟩]
       let o : List Offer := cs.map (offer 4400 (some 4028767))
       o.map (fun x => (x.bounded.toNat, x.hold.toNat)) = [(4028767, 108553), (4028767, 103960)]) := by
  decide +kernel

/-- A time-valid answer that is not waived, a TIME-INVALID one, and a waived one. -/
theorem witness_OkAnswersAreUsableTimelyAndOrdered :
    let shown : State → Option (AnswerCode × Bool × Bool × PathIndex × Nat) := fun s =>
      (after .lookupComputation s).steering.answer.map fun x =>
        (x.answer.code, x.answer.timeInvalid, x.answer.orderWaived, x.answer.path, x.taken)
    let unstamped : State :=
      { net with steering := { SteeringPort.initial with queue := [⟨1, 3, 0, 64, 5000000000, false, 5⟩] } }
    let late : State :=
      (asked 0).setRoute 3
        { siteRoute with contexts := #v[⟨true, 5004000000⟩, ⟨false, 0⟩, ⟨false, 0⟩, ⟨false, 0⟩] }
    (∀ s ∈ [asked 0, unstamped, late], s.steering.answer = none ∧ s.steering.queue ≠ []) ∧
      exec .lookupComputation (asked 0) = .next (after .lookupComputation (asked 0)) ∧
      shown (asked 0) = some (.ok, false, false, 10, 0) ∧ shown unstamped = some (.ok, true, false, 10, 0) ∧
      shown late = some (.ok, false, true, 10, 0) ∧
      net.classes[(0 : ClassIndex)].ordering = true ∧
      net.routes[(3 : RouteIndex)].contexts[(0 : ClassIndex)].valid = true ∧ net.routeTaken = net.time.epoch := by
  refine ⟨?_, rfl, ?_, ?_, ?_, ?_, ?_, ?_⟩ <;> decide +kernel

theorem witness_OnlyListedEventsInvalidateContexts :
    exec .lookupComputation (asked 0) = .next (after .lookupComputation (asked 0)) ∧
      (asked 0).routes[(3 : RouteIndex)].contexts[(0 : ClassIndex)].valid = true ∧
      (asked 0).routeTaken = (asked 0).time.epoch ∧ Instr.lookupComputation ≠ .powerOnReset := by
  refine ⟨rfl, ?_, ?_, ?_⟩ <;> decide +kernel

theorem witness_ChannelTakesWindowAndConfigurationAccesses :
    let c : Channel := { Channel.initial with listAddress := 0x1000 }
    c.state = .idle ∧ c.listAddress.toNat % 16 = 0 ∧ c.busMaster = false ∧
      ({ c with busMaster := true } : Channel).busMaster = true ∧
      ({ c with listAddress := 0x1008 } : Channel).listAddress.toNat % 16 ≠ 0 ∧
      ({ c with state := .ended } : Channel).state ≠ .idle ∧ (Cause.lead, (0x63 : Byte)).1.byte = 0x63 ∧
      ¬ (12 = 4 ∧ (12 = 0 ∨ 12 = 4 ∨ 12 = 8)) ∧ ¬ (4 = 8 ∧ (12 = 0 ∨ 12 = 8)) ∧ 0x34 % 4 = 0 ∧ 0x30 % 8 = 0 ∧
      ¬ (4 = 4 ∧ 2 % 4 = 0) ∧ 0x38 ≤ 0x38 := by decide

theorem witness_InterruptMessageIsSentWhenUnmasked :
    let c : Channel :=
      { Channel.initial with pendingIrq := { VectorFlags.clear with attention := true }, messages := true }
    c.pendingIrq.get .attention = true ∧ c.messages = true ∧ c.masks.get .attention = false ∧
      c.pendingIrq.get .timeState = false ∧ Channel.initial.messages = false ∧
      ({ c with masks := c.masks.put .attention true } : Channel).masks.get .attention = true := by decide

/-- A fetch for execution, and a row of each class. -/
theorem witness_FetchedBlockIsReadAndCheckedInOrder :
    (working (.fetching 9 0x1000 0 false)).chan.work = .fetching 9 0x1000 0 false ∧
      (⟨0x01, .jump, .flow, 0, 0⟩ : CatalogueRow) ∈ catalogue ∧
      (⟨0x11, .writeHop, .write, 63, 24⟩ : CatalogueRow) ∈ catalogue ∧
      (⟨0x62, .readTime, .read, 0, 32⟩ : CatalogueRow) ∈ catalogue ∧
      (⟨0x12, .retireHop, .plain, 63, 0⟩ : CatalogueRow) ∈ catalogue ∧
      (∀ row ∈ catalogue, row.code ≠ 0x02) ∧
      (∃ g, net.generationOf .readPath 10 = some g ∧ g ≠ 0) ∧ net.generationOf .readTime 0 = none := by
  refine ⟨by decide, by decide, by decide, by decide, by decide, by decide, ⟨1, by decide +kernel, by decide⟩, rfl⟩

/-- Blocks at the greatest index of each request's range, and with the zero option. -/
theorem witness_FetchedBlock_indices :
    let block : Half → Block := fun i => { readTimeBlock with index := i }
    (block 63).index.toNat = (63 : HopIndex).val ∧ (block 127).index.toNat = (127 : PathIndex).val ∧
      (block 31).index.toNat = (31 : RouteIndex).val ∧ (block 3).index.toNat = (3 : ClassIndex).val ∧
      (block 7).index.toNat = (7 : LevelIndex).val ∧ (block 0x8007).index.toNat % 32768 = (7 : LineIndex).val ∧
      (block 0x8007).index.getLsbD 15 = true := by decide

theorem witness_ConditionChainsSkipsOrEnds :
    readTimeBlock.flags.getLsbD 0 = true ∧ ({ readTimeBlock with flags := 0 } : Block).flags.getLsbD 0 = false ∧
      ({ readTimeBlock with flags := 3 } : Block).flags.getLsbD 1 = true ∧
      (working .idle).chan.state ≠ .halting ∧ (working .idle).chan.busMaster = true ∧
      ({ (working .idle).chan with state := .halting } : Channel).state = .halting ∧
      (working .idle).chan.record.executed + 1 < 1024 ∧
      1024 ≤ ({ Completion.zero with executed := 1023 } : Completion).executed + 1 := by decide

theorem witness_ApplySettlesTheWaitingBlock :
    (directRequest .readTime = true ∧ directRequest (.jump 0x2000) = true ∧ directRequest (.readHop 0) = false) ∧
    ((⟨.none, .stepLimit, []⟩ : Reply).condition = .none ∧ (⟨.done, .none, [1]⟩ : Reply).condition ≠ .none ∧
      (⟨.done, .none, [1]⟩ : Reply).image ≠ []) ∧
    (working (.applying readTimeBlock .readTime)).chan.work = .applying readTimeBlock .readTime ∧
      (working (.applying readTimeBlock (.jump 0x2000))).chan.work = .applying readTimeBlock (.jump 0x2000) ∧
      (∀ b, net.chan.work ≠ .applying b (.jump 0x2000)) ∧
      ((State.reset.setChan { Channel.initial with work := .applying readTimeBlock (.adjustTime 5) }).chan.work =
          .applying readTimeBlock (.adjustTime 5) ∧
        (State.reset.setChan { Channel.initial with
          work := .applying readTimeBlock (.adjustTime 5) }).time.state = .unset) ∧
      ((working (.applying readTimeBlock (.writeTiming ⟨0, 8, 0⟩))).chan.work =
          .applying readTimeBlock (.writeTiming ⟨0, 8, 0⟩) ∧
        (⟨0, 8, 0⟩ : TimingImage).check = some .integral) := by
  refine ⟨by decide, by decide, by decide, by decide, fun b h => ?_, by decide, by decide⟩
  cases h

theorem witness_ReadsAndImageWritesGoOnWithTheBlock :
    let b : Block := { readTimeBlock with code := 0x63, count := 8 }
    (working (.reading 9 b 49)).chan.work = .reading 9 b 49 ∧
      (working (.reading 9 b 49)).ticks.owed .channel ≠ 0 ∧
      (({ b with code := 0x70 } : Block).code = 0x70 ∧ (4 : BitVec 256).extractLsb' 0 8 ≠ 1 ∧
        (4 : BitVec 256).extractLsb' 0 8 ≠ 2 ∧ (4 : BitVec 256).extractLsb' 0 8 ≠ 3) ∧
      (working .idle).chan.busMaster = true ∧ Channel.initial.busMaster = false ∧
      ({ Completion.zero with executed := 1024 } : Completion).executed = 1024 ∧
      catalogueRow b.code = some ⟨0x63, .writeTiming, .write, 0, 8⟩ ∧
      b.command .writeTiming 0x05032710 = some (.writeTiming ⟨0x05032710, 0, 0⟩) ∧
      contentFault (.writeTiming ⟨0x05032710, 0, 0⟩) net = some .stepLimit ∧
      contentFault (.writeTiming ⟨10000, 3, 5⟩) net = none ∧
      (working (.fetching 9 0x1010 49 true)).chan.work = .fetching 9 0x1010 49 true ∧
      (0x100 : BitVec 128).getLsbD 8 = true ∧ (0 : BitVec 128).getLsbD 8 = false ∧
      (working (.writing b [1, 2, 3] 0x8000)).chan.work = .writing b [1, 2, 3] 0x8000 ∧
      2 < [1, 2, 3].length ∧ [1, 2, 3].length ≤ 3 := by decide

/-- A sound state whose step changes something, for the five statements on what every step keeps. -/
theorem witness_StepKeeps :
    let s : State := { net with pending := [.retirePath 10] }
    s.attentionSound ∧ (s.hopsSound ∧ s.holdsSound) ∧ (s.pathsSound ∧ s.slotsSound ∧ s.routesSound) ∧
      (s.time.sound ∧ s.queuesSound) ∧ s.chan.sound ∧ ∃ t, step s = .next t :=
  ⟨net_attentionSound, ⟨net_hopsSound, net_holdsSound⟩, ⟨net_pathsSound, net_slotsSound, net_routesSound⟩,
    ⟨net_time_sound, net_queuesSound⟩, net_chan_sound, ⟨_, rfl⟩⟩

/-! ## One step each -/

/-- 5.10: the pulse in UNSET is ignored and counted. -/
theorem test_pulse_in_unset :
    (after .referencePulse State.reset).probe.counters.pulsesIgnored = 1 ∧
      (after .referencePulse State.reset).time = State.reset.time := by decide

/-- 5.10: SET-TIME in UNSET raises the interrupt and is no step. -/
theorem test_set_time :
    (after (.setTime 77) State.reset).time.state = .set ∧ (after (.setTime 77) State.reset).time.epoch = 0 ∧
      (after (.setTime 77) State.reset).chan.pendingIrq.timeState = true := by decide

/-- 5.10, P1: a step to the whole second. -/
theorem test_pulse_steps :
    let s := after .referencePulse (after (.setTime 1650000014) State.reset)
    s.time.count = 2000000000 ∧ s.time.state = .tracking ∧ s.time.epoch = 1 ∧ s.probeSignals = [1] ∧
      s.routeSignals = [1] ∧ s.probe.counters.steps = 1 := by decide

/-- R45 to R46, 3.7: LEVEL-BELOW-FREE leaves the levels; placing holds the hop. -/
theorem test_holds :
    (after (.placeHold 2 0x20) held).reply.cause = .levelBelowFree ∧
      (after (.placeHold 1 0x1000000) held).held 24 = true ∧
      ((after (.placeHold 1 0x1000000) held).triggers = [.hop 24]) ∧
      (after (.releaseHold 0) (after (.placeHold 1 0x1000000) held)).held 24 = false := by decide +kernel

/-- 1.7, step 3: the turn for line 4 absorbs the report of 10.1 for hop 22. -/
theorem test_line_turn :
    let s := after .lineTurn (buffered 0xA516C8008C0037BA)
    s.lines[(4 : LineIndex)].counters.absorbed = 1 ∧ s.lines[(4 : LineIndex)].buffer = none ∧
      s.hops[(22 : HopIndex)].margin = 140 ∧ s.hops[(22 : HopIndex)].stamp = 7 ∧ s.arbiter = 5 := by
  decide +kernel

/-- 8.7: an OK answer on the candidate moves the counter and the context. -/
theorem test_lookup :
    let s := after .lookupComputation (asked 0)
    s.routes[(3 : RouteIndex)].counters.ok = 2 ∧
      s.routes[(3 : RouteIndex)].contexts[(0 : ClassIndex)] = ⟨true, 5003911107⟩ ∧ s.steering.queue = [] := by
  decide +kernel

/-- R71: the route that stood on the retired path falls back, and its slot is freed. -/
theorem test_retire_path :
    let s := after (.retirePath 10) net
    s.routes[(3 : RouteIndex)].state = .fallback ∧ s.routes[(4 : RouteIndex)].state = .dark ∧
      s.attentionCount = 2 ∧ s.probe.slots[(0 : SlotIndex)] = .free ∧
      s.chan.pendingIrq.attention = true := by decide +kernel

/-- R164: a list that begins at an unaligned address ends at once. -/
theorem test_start_unaligned :
    let s := after .start (after (.windowWrite 0 8 0x1008) State.reset)
    s.chan.state = .ended ∧ s.chan.record.cause = .alignment ∧ s.chan.record.lastBlock = 0x1008 ∧
      s.chan.pendingIrq.listEnded = true := by decide

/-- 9.11: READ-TIME with CHAIN clear, from its fetch to the end of its list. -/
theorem test_list_of_one_block :
    let s := after (.blockFetchComplete 9 (some 0x8000_0020_0000_0000_00_62)) (working (.fetching 9 0x1000 0 false))
    let t := after (.imageWriteIssued 32) (after .readTime s)
    t.chan.state = .ended ∧ t.chan.record = ⟨.normal, .none, 0, 0, 1, .done⟩ ∧ t.sent.length = 1 := by
  decide +kernel

/-- R75: a place takes a delivered tick once; R26: the tick that reaches the restore time makes the hop CLEAR. -/
theorem test_tick_at_hop :
    let s := net.setHop 22 { fadedHop with silence := 0 }
    let t := after (.millisecondTick (.hop 22)) s
    t.hops[(22 : HopIndex)].state = .clear ∧ t.hops[(24 : HopIndex)] = s.hops[(24 : HopIndex)] ∧
      after (.millisecondTick (.hop 22)) t = t ∧ t.triggers = [.hop 22] := by decide +kernel

/-- R85: the tick before the pulse enters HOLDOVER and the pulse then ends it, with two interrupts raised; the pulse
before the tick leaves the supervision timer at 1. -/
theorem test_pulse_and_tick_together :
    let s := net.setTime { net.time with supervision := some 1499 }
    let a := after (.millisecondTick .supervision) s
    let b := after (.millisecondTick .supervision) (after .referencePulse s)
    a.time.state = .holdover ∧ (after .referencePulse a).time.state = .tracking ∧
      (after .referencePulse a).time.supervision = some 0 ∧
      b.time.state = .tracking ∧ b.time.supervision = some 1 := by decide +kernel

/-- R103: the granted probe goes out with its stamp, and its slot is SENT. -/
theorem test_probe_sent :
    let s := after .probeTransmitGrant net
    s.probe.slots[(0 : SlotIndex)] = .sent 10 499 5000000037 20 1 ∧ s.probe.counters.probesSent = 1 ∧
      s.probe.transmitter = some (buildFrame 1 3 7 2 10 499 5000000037 0 0) := by decide +kernel

end Sys2Proof.Tests
end

