-- ==== Sys2Proof/Proofs/LineTurn.lean ====
section
/-! PROOF of O11. A line's turn at the hop update arbiter (R13): the grant fixes the line, and the buffered frame
then meets exactly one of the four ends of `dealWithFrame`, each stated here once. -/

namespace Sys2Proof.Machine

open Sys2Proof

/-! ### The frame and the tables -/

/-- Three bits name a line with nothing lost. -/
theorem frameLine_val (f : BitVec 64) : (frameLine f).val = (f.extractLsb' 41 3).toNat :=
  Nat.mod_eq_of_lt (f.extractLsb' 41 3).isLt

theorem frameLine_eq_iff (f : BitVec 64) (l : LineIndex) :
    frameLine f = l ↔ (f.extractLsb' 41 3).toNat = l.val := by
  rw [Fin.ext_iff, frameLine_val]

/-- Of two writes of one line the second stands. -/
theorem State.setLine_setLine (l : LineIndex) (x y : Line) (s : State) :
    (s.setLine l x).setLine l y = s.setLine l y := by
  simp only [State.setLine, table_set_set]

/-- A line reads back as it was written. -/
theorem State.setLine_line_self (l : LineIndex) (x : Line) (s : State) : (s.setLine l x).lines[l] = x :=
  table_set_self s.lines l x

/-- The pointer after a line's turn stands at the position after the line (R12). -/
theorem State.passPointer_line (l : LineIndex) (s : State) :
    s.passPointer (Fin.ofNat 9 l.val) = s.setArbiter (Fin.ofNat 9 (l.val + 1)) := by
  have hl : l.val % 9 = l.val := Nat.mod_eq_of_lt (by omega)
  simp only [State.passPointer, Fin.val_ofNat, hl]

/-! ### The counters of a line (R11) -/

/-- The line with one frame of an unknown hop more. -/
def Line.countUnknownHop (x : Line) : Line :=
  { x with counters := { x.counters with unknownHop := min (x.counters.unknownHop + 1) 65535 } }

/-- The line with one misrouted frame more. -/
def Line.countMisrouted (x : Line) : Line :=
  { x with counters := { x.counters with misrouted := min (x.counters.misrouted + 1) 65535 } }

/-- The line with one absorbed frame more. -/
def Line.countAbsorbed (x : Line) : Line :=
  { x with counters := { x.counters with absorbed := min (x.counters.absorbed + 1) 65535 } }

/-! ### The ends of `dealWithFrame`, in the order of R13 -/

section
variable {l : LineIndex} {f : BitVec 64} {stamp : Quad} {s : State}

theorem dealWithFrame_beyond_table (h : 64 ≤ (frameHop f).toNat) :
    s.dealWithFrame l ⟨f, stamp⟩ = s.setLine l s.lines[l].countUnknownHop :=
  dif_neg (Nat.not_lt.mpr h)

variable {i : HopIndex}

/-- For a hop index within the table, the rest of R13 is decided at that hop's record. -/
theorem dealWithFrame_at_hop (hi : i.val = (frameHop f).toNat) :
    s.dealWithFrame l ⟨f, stamp⟩ =
      if s.hops[i].state = .vacant then s.setLine l s.lines[l].countUnknownHop
      else if frameLine f ≠ s.hops[i].config.line ∨ frameLine f ≠ l then
        s.setLine l s.lines[l].countMisrouted
      else (s.setLine l s.lines[l].countAbsorbed).absorb i (frameReport f) stamp := by
  have hlt : (frameHop f).toNat < 64 := hi ▸ i.isLt
  obtain rfl : i = ⟨(frameHop f).toNat, hlt⟩ := Fin.ext hi
  simp only [State.dealWithFrame, dif_pos hlt, Hop.inService, Bool.not_eq_true', decide_eq_false_iff_not,
    Decidable.not_not, Bool.or_eq_true, decide_eq_true_eq]
  rfl

theorem dealWithFrame_vacant (hi : i.val = (frameHop f).toNat) (hv : s.hops[i].state = .vacant) :
    s.dealWithFrame l ⟨f, stamp⟩ = s.setLine l s.lines[l].countUnknownHop := by
  rw [dealWithFrame_at_hop hi, if_pos hv]

theorem dealWithFrame_misrouted (hi : i.val = (frameHop f).toNat) (hv : s.hops[i].state ≠ .vacant)
    (hm : frameLine f ≠ s.hops[i].config.line ∨ frameLine f ≠ l) :
    s.dealWithFrame l ⟨f, stamp⟩ = s.setLine l s.lines[l].countMisrouted := by
  rw [dealWithFrame_at_hop hi, if_neg hv, if_pos hm]

theorem dealWithFrame_absorbed (hi : i.val = (frameHop f).toNat) (hv : s.hops[i].state ≠ .vacant)
    (hc : frameLine f = s.hops[i].config.line) (hl : frameLine f = l) :
    s.dealWithFrame l ⟨f, stamp⟩ =
      (s.setLine l s.lines[l].countAbsorbed).absorb i (frameReport f) stamp := by
  rw [dealWithFrame_at_hop hi, if_neg hv, if_neg (not_or.mpr ⟨not_not.mpr hc, not_not.mpr hl⟩)]

end

/-! ### The turn -/

/-- The state in which the turn of line `l` deals with its frame: the pointer moved on, the buffer emptied. -/
def State.turnTaken (l : LineIndex) (s : State) : State :=
  (s.setArbiter (Fin.ofNat 9 (l.val + 1))).setLine l { s.lines[l] with buffer := none }

theorem State.turnTaken_line (l : LineIndex) (s : State) :
    (s.turnTaken l).lines[l] = { s.lines[l] with buffer := none } :=
  State.setLine_line_self l _ _

theorem State.turnTaken_setLine (l : LineIndex) (y : Line) (s : State) :
    (s.turnTaken l).setLine l y = (s.setArbiter (Fin.ofNat 9 (l.val + 1))).setLine l y :=
  State.setLine_setLine l _ y _

/-- A turn reaches no hop record before it deals with the frame. -/
theorem State.turnTaken_hops (l : LineIndex) (s : State) : (s.turnTaken l).hops = s.hops := rfl

/-- LINE_TURN with line `l` granted and its buffer full deals with the buffered frame (R12, R13). -/
theorem exec_lineTurn_granted {s : State} {l : LineIndex} {x : Buffered}
    (hg : s.granted = some l.castSucc) (hb : s.lines[l].buffer = some x) :
    exec .lineTurn s = .next ((s.turnTaken l).dealWithFrame l x) := by
  have hexec : exec .lineTurn s = .next (s.lineTurn l) := by
    change execLineTurn s = _
    simp only [execLineTurn, hg]
    exact dif_pos l.isLt
  have hturn : s.lineTurn l = (s.turnTaken l).dealWithFrame l x := by
    simp only [State.lineTurn, hb, State.passPointer_line, State.turnTaken]
  rw [hexec, hturn]

/-- Settles O11: the grant reduces LINE_TURN to `dealWithFrame`, and each case of R13 is one of its ends. -/
theorem lineTurnDealsWithBufferedFrame : Obligations.LineTurnDealsWithBufferedFrame := by
  intro s l f stamp hg hb
  simp only [exec_lineTurn_granted hg hb]
  refine ⟨fun hhop => ?beyond, fun i hi => ⟨fun hv => ?vacant, fun hv hm => ?misrouted,
    fun hv hc hl => ?absorbed⟩⟩
  case beyond =>
    rw [dealWithFrame_beyond_table hhop, State.turnTaken_line, State.turnTaken_setLine]
    rfl
  case vacant =>
    rw [← State.turnTaken_hops l s] at hv
    rw [dealWithFrame_vacant hi hv, State.turnTaken_line, State.turnTaken_setLine]
    rfl
  case misrouted =>
    have hm' : frameLine f ≠ s.hops[i].config.line ∨ frameLine f ≠ l := by
      simpa only [ne_eq, frameLine_eq_iff] using hm
    rw [← State.turnTaken_hops l s] at hv hm'
    rw [dealWithFrame_misrouted hi hv hm', State.turnTaken_line, State.turnTaken_setLine]
    rfl
  case absorbed =>
    have hc' : frameLine f = s.hops[i].config.line := (frameLine_eq_iff f _).mpr hc
    have hl' : frameLine f = l := (frameLine_eq_iff f l).mpr hl
    rw [← State.turnTaken_hops l s] at hv hc'
    rw [dealWithFrame_absorbed hi hv hc' hl', State.turnTaken_line, State.turnTaken_setLine]
    rfl

end Sys2Proof.Machine
end

