-- ==== Sys2Proof/Proofs/Reports.lean ====
section
/-! PROOF of O12 and O13. An absorbed report: the record it leaves, the re-ranks it triggers and its frame (R20),
and how the class of a report moves an in-service hop (R19, R21 to R25). -/

namespace Sys2Proof.Machine

open Sys2Proof

/-! ### What a judged report can change -/

@[simp] theorem Hop.judgeClass_profile (h : Hop) (c : ReportClass) : (h.judgeClass c).profile = h.profile := by
  have hcount : h.countBad.profile = h.profile := by
    unfold Hop.countBad
    split <;> rfl
  unfold Hop.judgeClass
  split
  case h_3 | h_6 => exact hcount
  all_goals rfl

/-- Judging a report moves the condition of the hop, never its profile. -/
@[simp] theorem Hop.judge_profile (h : Hop) (r : Report) : (h.judge r).profile = h.profile := by
  unfold Hop.judge
  split
  · split <;> rfl
  · exact h.judgeClass_profile _

/-! ### Absorbing a report (R20) -/

/-- A trigger sent on a condition is appended where the condition holds (R128). -/
theorem State.triggerIf_decide_triggers (p : Prop) [Decidable p] (t : Trigger) (s : State) :
    (s.triggerIf (decide p) t).triggers = s.triggers ++ if p then [t] else [] := by
  by_cases hp : p <;> simp [hp]

/-- The record that an absorbed report leaves at hop `i`: the copy, judged unless the hop is held. -/
def State.reportedHop (i : HopIndex) (r : Report) (stamp : Quad) (s : State) : Hop :=
  if s.held i then s.hops[i].copyReport r stamp else (s.hops[i].copyReport r stamp).judge r

section
variable (i : HopIndex) (r : Report) (stamp : Quad) (s : State)

/-- Absorbing a report writes the record it leaves, and triggers a re-rank for each of the two changes. -/
theorem State.absorb_eq :
    s.absorb i r stamp =
      ((s.putHop i (s.reportedHop i r stamp)).triggerIf
        (decide ((s.reportedHop i r stamp).state ≠ s.hops[i].state)) (.hop i)).triggerIf
        (decide ((s.reportedHop i r stamp).profile ≠ s.hops[i].profile)) (.hop i) := rfl

/-- Held or not, the hop's profile is the reported one. -/
theorem State.reportedHop_profile : (s.reportedHop i r stamp).profile = r.profile := by
  unfold State.reportedHop
  split
  · rfl
  · exact Hop.judge_profile _ r

theorem State.absorb_hops : (s.absorb i r stamp).hops = s.hops.set i (s.reportedHop i r stamp) := by
  rw [State.absorb_eq, State.triggerIf_hops, State.triggerIf_hops, State.putHop_hops]

/-- One re-rank for a change of state, and after it one for a change of profile (R33). -/
theorem State.absorb_triggers :
    (s.absorb i r stamp).triggers =
      s.triggers ++ (if (s.reportedHop i r stamp).state ≠ s.hops[i].state then [Trigger.hop i] else []) ++
        (if r.profile ≠ s.hops[i].profile then [Trigger.hop i] else []) := by
  rw [State.absorb_eq, State.triggerIf_decide_triggers, State.triggerIf_decide_triggers, State.putHop_triggers,
    State.reportedHop_profile]

/-- Absorbing a report writes the hop table, the triggers and the accounting of attention alone. -/
theorem State.absorb_frame :
    { s.absorb i r stamp with
      hops := s.hops, triggers := s.triggers, attentionCount := s.attentionCount, chan := s.chan } = s := by
  simp [State.absorb_eq]

end

/-- Settles O12: the table, the triggers and the frame of `State.absorb`, each by its own lemma. -/
theorem absorbedReportCopiesAndTriggers : Obligations.AbsorbedReportCopiesAndTriggers := by
  intro s i r stamp
  refine ⟨?written, fun j hj => ?others, s.absorb_triggers i r stamp, s.absorb_frame i r stamp⟩
  case written =>
    rw [State.absorb_hops, table_set_self]
    rfl
  case others => rw [State.absorb_hops, table_set_ne _ _ hj]

/-! ### The class of a report (R19) -/

section
variable {c : HopConfig} {r : Report}

/-- Without link-lost a report is BAD by its profile, its margin or its errors. -/
theorem classify_eq_bad (hl : r.linkLost = false)
    (hb : r.profile = 0 ∨ r.margin.toInt < c.fade.toInt ∨ c.errorLimit < r.errors) :
    classify c r = .bad := by
  refine if_pos ?_
  simpa only [hl, Bool.false_or, Bool.or_eq_true, decide_eq_true_eq, or_assoc, BitVec.lt_def] using hb

/-- A report that is not BAD is MARGINAL or GOOD by its margin and its profile. -/
theorem classify_of_not_bad (hl : r.linkLost = false)
    (hb : ¬ (r.profile = 0 ∨ r.margin.toInt < c.fade.toInt ∨ c.errorLimit < r.errors)) :
    classify c r =
      if r.margin.toInt < c.clear.toInt ∨ r.profile < c.nominal then .marginal else .good := by
  have hb' : ¬ (r.linkLost || decide (r.profile = 0) || decide (r.margin.toInt < c.fade.toInt) ||
      decide (c.errorLimit.toNat < r.errors.toNat)) = true := by
    simpa only [hl, Bool.false_or, Bool.or_eq_true, decide_eq_true_eq, or_assoc, BitVec.lt_def] using hb
  rw [classify, if_neg hb']
  simp only [Bool.or_eq_true, decide_eq_true_eq, BitVec.lt_def]

end

/-! ### The state summary (section 2.3) -/

/-- Link-lost alone decides: the hop enters DOWN, or stays there (R25). -/
theorem Hop.judge_of_linkLost (h : Hop) {r : Report} (hl : r.linkLost = true) :
    h.judge r = if h.state = .down then h else h.enterDown :=
  if_pos hl

/-- Without link-lost the class of the report decides. -/
theorem Hop.judge_of_class (h : Hop) {r : Report} {c : ReportClass} (hl : r.linkLost = false)
    (hc : classify h.config r = c) : h.judge r = h.judgeClass c := by
  rw [Hop.judge, if_neg (hl ▸ Bool.false_ne_true), hc]

/-- BAD counts in CLEAR and FADING, stops the clear-hold timer in FADED and leads DOWN to FADED (R21 to R24). -/
theorem Hop.judgeClass_bad (h : Hop) :
    h.judgeClass .bad =
      match h.state with
      | .clear | .fading => h.countBad
      | .faded => { h with clearHold := none }
      | .down => { h with state := .faded, attention := true }
      | .vacant => h := by
  cases hs : h.state <;> simp only [Hop.judgeClass, hs]

/-- MARGINAL ends CLEAR, stops the clear-hold timer elsewhere and leads DOWN to FADED (R21 to R24). -/
theorem Hop.judgeClass_marginal (h : Hop) :
    h.judgeClass .marginal =
      match h.state with
      | .clear => { h with state := .fading }
      | .fading | .faded => { h with clearHold := none }
      | .down => { h with state := .faded, attention := true }
      | .vacant => h := by
  cases hs : h.state <;> simp only [Hop.judgeClass, hs]

/-- GOOD clears the counter before the limit and starts the clear-hold timer outside CLEAR (R21 to R24). -/
theorem Hop.judgeClass_good (h : Hop) :
    h.judgeClass .good =
      match h.state with
      | .clear => { h with bad := 0 }
      | .fading => { h with bad := 0, clearHold := some (h.clearHold.getD 0) }
      | .faded => { h with clearHold := some (h.clearHold.getD 0) }
      | .down => { h with state := .faded, attention := true, clearHold := some 0 }
      | .vacant => h := by
  cases hs : h.state <;> simp only [Hop.judgeClass, Hop.startClearHold, hs]

/-- Settles O13: link-lost first, then the class of the report, then the hop's state. -/
theorem reportMovesHopByStateSummary : Obligations.ReportMovesHopByStateSummary := by
  intro h r _
  refine ⟨fun hl => ?lost, fun hl hb => ?bad, fun hl hb hm => ?marginal, fun hl hb hm => ?good⟩
  case lost => exact h.judge_of_linkLost hl
  case bad => exact (h.judge_of_class hl (classify_eq_bad hl hb)).trans h.judgeClass_bad
  case marginal =>
    have hc : classify h.config r = .marginal := by rw [classify_of_not_bad hl hb, if_pos hm]
    exact (h.judge_of_class hl hc).trans h.judgeClass_marginal
  case good =>
    have hc : classify h.config r = .good := by rw [classify_of_not_bad hl hb, if_neg hm]
    exact (h.judge_of_class hl hc).trans h.judgeClass_good

end Sys2Proof.Machine
end

section
/-! PROOF of O39. A sample at the estimate filter (R114 to R116): which of the three cases it meets, and how far an
accepted one moves the estimate. -/

namespace Sys2Proof.Machine

open Sys2Proof

/-! ### The rounded step towards a sample -/

/-- From `e` the rounded step towards `v` ends between the two: it has the sign of `v - e` and at most its size. -/
theorem add_roundedShift_between (e v : Int) (k : Nat) :
    min e v ≤ e + roundedShift (v - e) k ∧ e + roundedShift (v - e) k ≤ max e v := by
  rcases le_total e v with hle | hle
  · obtain ⟨hlow, hhigh⟩ := roundedShift_nonneg k (sub_nonneg.mpr hle)
    rw [min_eq_left hle, max_eq_right hle]
    omega
  · obtain ⟨hlow, hhigh⟩ := roundedShift_nonpos k (sub_nonpos.mpr hle)
    rw [min_eq_right hle, max_eq_left hle]
    omega

/-! ### The cases of the filter -/

section
variable {x : Path} {v : Nat}

/-- The first sample starts the estimate (R114). -/
theorem Path.filter_of_none (h : x.status = .none) : x.filter v = x.startEstimate v := by
  rw [Path.filter, h]

/-- A later sample is rejected or accepted (R115, R116). -/
theorem Path.filter_of_started (h : x.status ≠ .none) :
    x.filter v = if x.rejects v then x.rejectSample v else x.acceptSample v := by
  cases hs : x.status with
  | none => exact absurd hs h
  | settling | steady => rw [Path.filter, hs]

/-- A window of 0 rejects nothing; any other one rejects what lies beyond it (R115). -/
theorem Path.rejects_iff :
    x.rejects v = true ↔ x.config.rejectWindow.toNat ≠ 0 ∧
      x.config.rejectWindow.toNat * 16 < ((v : Int) - x.estimate).natAbs := by
  rw [Path.rejects, Bool.and_eq_true, decide_eq_true_iff, decide_eq_true_iff, Ne, ← BitVec.toNat_inj]
  rfl

/-- Up to three rejected samples in a row are counted; the next one restarts the estimate (R115). -/
theorem Path.rejectSample_eq :
    x.rejectSample v = if x.outlier < 3 then { x with outlier := x.outlier + 1 } else x.startEstimate v := by
  unfold Path.rejectSample Config.outlierLimit
  by_cases h : x.outlier < 3
  · rw [if_pos h, if_neg (by omega)]
  · rw [if_neg h, if_pos (by omega)]

/-! ### What an accepted sample leaves -/

/-- With estimate and sample in range the clamp changes nothing: the estimate moves by the rounded step (R116). -/
theorem Path.acceptSample_estimate (hx : x.estimate ≤ Config.estimateMax) (hv : v ≤ Config.estimateMax) :
    ((x.acceptSample v).estimate : Int) =
      x.estimate + roundedShift ((v : Int) - x.estimate) x.config.shift.toNat := by
  obtain ⟨hlow, hhigh⟩ := add_roundedShift_between x.estimate v x.config.shift.toNat
  have hmax : max (x.estimate : Int) v ≤ Config.estimateMax := by omega
  have hmin : 0 ≤ min (x.estimate : Int) v := by omega
  have hpos := hmin.trans hlow
  rw [Path.acceptSample, clamp_eq hpos (hhigh.trans hmax), Int.toNat_of_nonneg hpos]

/-- The count reaches 8 exactly from 7 on, and there a SETTLING estimate becomes STEADY (R116). -/
theorem Path.acceptSample_status :
    (x.acceptSample v).status = if x.status = .settling ∧ 7 ≤ x.accepted then .steady else x.status := by
  have hcount : min (x.accepted + 1) Config.steadyCount = Config.steadyCount ↔ 7 ≤ x.accepted := by
    unfold Config.steadyCount
    omega
  simp only [Path.acceptSample, hcount]

/-- An accepted sample writes the four fields of the estimate alone. -/
theorem Path.acceptSample_frame :
    { x.acceptSample v with
      estimate := x.estimate, status := x.status, accepted := x.accepted, outlier := x.outlier } = x := rfl

end

/-- Settles O39: the status and the reject window fix the case, and the accepted step ends between the estimate
and the sample. -/
theorem sampleMovesEstimateTowardsItself : Obligations.SampleMovesEstimateTowardsItself := by
  intro x v hx hv
  refine ⟨fun hnone => ?first, fun hs hw hfar => ?rejected, fun hs hnear => ?accepted⟩
  case first => exact Path.filter_of_none hnone
  case rejected =>
    rw [Path.filter_of_started hs, if_pos (Path.rejects_iff.mpr ⟨hw, hfar⟩)]
    exact Path.rejectSample_eq
  case accepted =>
    have hkept : ¬ x.rejects v = true := by
      rw [Path.rejects_iff]
      omega
    have hmove := Path.acceptSample_estimate hx hv
    obtain ⟨hlow, hhigh⟩ := add_roundedShift_between x.estimate v x.config.shift.toNat
    rw [← hmove] at hlow hhigh
    rw [Path.filter_of_started hs, if_neg hkept]
    refine ⟨?step, by omega, by omega, rfl, rfl, Path.acceptSample_status, Path.acceptSample_frame⟩
    case step => rw [hmove, roundedShift_eq]

end Sys2Proof.Machine
end

section
/-! PROOF of O42. The contenders of a choice (R130, R150), the position of the fastest among them, and what a
recomputation leaves of each kind of choice (R130, R131). -/

namespace Sys2Proof.Machine

open Sys2Proof

/-! ### The position of a filtered element -/

/-- An element kept by a filter stands in the list itself, and what was kept before it stands before it still. -/
theorem exists_getElem_eq_filter_getElem {α : Type} (p : α → Bool) {l : List α} {k : Nat}
    (hk : k < (l.filter p).length) :
    ∃ (i : Nat) (hi : i < l.length), l[i] = (l.filter p)[k] ∧
      ∀ (j : Nat) (hj : j < i), p l[j] = true → ∃ (m : Nat) (hm : m < k), (l.filter p)[m] = l[j] := by
  induction l generalizing k with
  | nil => exact absurd hk (Nat.not_lt_zero k)
  | cons a rest ih =>
    by_cases ha : p a = true
    · simp only [List.filter_cons_of_pos ha] at hk ⊢
      cases k with
      | zero => exact ⟨0, Nat.zero_lt_succ _, rfl, fun j hj => absurd hj (Nat.not_lt_zero j)⟩
      | succ k =>
        obtain ⟨i, hi, heq, hbefore⟩ := ih (Nat.lt_of_succ_lt_succ hk)
        refine ⟨i + 1, Nat.succ_lt_succ hi, heq, fun j hj hp => ?_⟩
        cases j with
        | zero => exact ⟨0, Nat.zero_lt_succ k, rfl⟩
        | succ j =>
          obtain ⟨m, hm, hmj⟩ := hbefore j (Nat.lt_of_succ_lt_succ hj) hp
          exact ⟨m + 1, Nat.succ_lt_succ hm, hmj⟩
    · simp only [List.filter_cons_of_neg ha] at hk ⊢
      obtain ⟨i, hi, heq, hbefore⟩ := ih hk
      refine ⟨i + 1, Nat.succ_lt_succ hi, heq, fun j hj hp => ?_⟩
      cases j with
      | zero => exact absurd hp ha
      | succ j => exact hbefore j (Nat.lt_of_succ_lt_succ hj) hp

/-! ### The contenders: the usable candidates in order, then the fallback -/

/-- The contender a path is, as a candidate or as the fallback. -/
def State.contender (s : State) (n : Nat) (fallback : Bool) (p : PathIndex) : Contender :=
  ⟨p, s.totalLatency p n, fallback⟩

/-- The contenders from the candidates (R130). -/
def State.candidateContenders (s : State) (r : Route) (c : ClassIndex) (n : Nat) : List Contender :=
  (r.candidates.filter (s.pathUsable c)).map (s.contender n false)

/-- The fallback path as a contender, where it is one (R130). -/
def State.fallbackContenders (s : State) (r : Route) (c : ClassIndex) (n : Nat) : List Contender :=
  match r.fallback with
  | some p =>
    if s.pathUsable c p && (s.classes[c].fibreCompetes || (r.candidates.filter (s.pathUsable c)).isEmpty) then
      [s.contender n true p]
    else []
  | none => []

section
variable {s : State} {r : Route} {c : ClassIndex} {n : Nat} {x : Contender} {p : PathIndex}

theorem State.contenders_eq :
    s.contenders r c n = s.candidateContenders r c n ++ s.fallbackContenders r c n := rfl

theorem State.mem_candidateContenders :
    x ∈ s.candidateContenders r c n ↔
      ∃ p ∈ r.candidates, s.pathUsable c p = true ∧ x = s.contender n false p := by
  simp only [State.candidateContenders, List.mem_map, List.mem_filter, and_assoc, @eq_comm _ x]

/-- The fallback contends where it is usable and fibre competes or no candidate is usable. -/
theorem State.mem_fallbackContenders :
    x ∈ s.fallbackContenders r c n ↔
      ∃ p, r.fallback = some p ∧ s.pathUsable c p = true ∧
        (s.classes[c].fibreCompetes = true ∨ ∀ q ∈ r.candidates, ¬ s.pathUsable c q = true) ∧
        x = s.contender n true p := by
  cases hf : r.fallback with
  | none => simp [State.fallbackContenders, hf]
  | some p =>
    simp only [State.fallbackContenders, hf, List.mem_ite_nil_right, List.mem_singleton, Bool.and_eq_true,
      Bool.or_eq_true, List.isEmpty_iff, List.filter_eq_nil_iff, Option.some_inj, exists_eq_left', and_assoc]

theorem State.fallback_of_mem_candidateContenders (h : x ∈ s.candidateContenders r c n) : x.fallback = false := by
  obtain ⟨p, -, -, rfl⟩ := State.mem_candidateContenders.mp h
  rfl

theorem State.fallback_of_mem_fallbackContenders (h : x ∈ s.fallbackContenders r c n) : x.fallback = true := by
  obtain ⟨p, -, -, -, rfl⟩ := State.mem_fallbackContenders.mp h
  rfl

theorem State.candidate_mem_contenders (hp : p ∈ r.candidates) (hu : s.pathUsable c p = true) :
    s.contender n false p ∈ s.contenders r c n :=
  List.mem_append_left _ (State.mem_candidateContenders.mpr ⟨p, hp, hu, rfl⟩)

theorem State.fallback_mem_contenders (hf : r.fallback = some p) (hu : s.pathUsable c p = true)
    (hc : s.classes[c].fibreCompetes = true ∨ ∀ q ∈ r.candidates, ¬ s.pathUsable c q = true) :
    s.contender n true p ∈ s.contenders r c n :=
  List.mem_append_right _ (State.mem_fallbackContenders.mpr ⟨p, hf, hu, hc, rfl⟩)

/-- There is no contender where nothing the route holds is usable. -/
theorem State.contenders_eq_nil_iff :
    s.contenders r c n = [] ↔
      (∀ p ∈ r.candidates, ¬ s.pathUsable c p = true) ∧
        ∀ p, r.fallback = some p → ¬ s.pathUsable c p = true := by
  constructor
  · intro hnil
    have hnone : ∀ x, x ∉ s.contenders r c n := List.eq_nil_iff_forall_not_mem.mp hnil
    have hcandidates : ∀ p ∈ r.candidates, ¬ s.pathUsable c p = true := fun p hp hu =>
      hnone _ (State.candidate_mem_contenders hp hu)
    exact ⟨hcandidates, fun p hf hu => hnone _ (State.fallback_mem_contenders hf hu (.inr hcandidates))⟩
  · rintro ⟨hcandidates, hfallback⟩
    refine List.eq_nil_iff_forall_not_mem.mpr fun x hx => ?_
    rcases List.mem_append.mp hx with hx | hx
    · obtain ⟨p, hp, hu, -⟩ := State.mem_candidateContenders.mp hx
      exact hcandidates p hp hu
    · obtain ⟨p, hf, hu, -, -⟩ := State.mem_fallbackContenders.mp hx
      exact hfallback p hf hu

/-! ### The fastest contender -/

/-- The fastest contender has the least latency, and every contender before it a greater one. -/
theorem fastest_spec {cs : List Contender} (h : fastest cs = some x) :
    ∃ (k : Nat) (hk : k < cs.length), cs[k] = x ∧
      ∀ (j : Nat) (hj : j < cs.length), x.latency ≤ cs[j].latency ∧ (j < k → x.latency < cs[j].latency) :=
  firstBest_spec (fun _ _ => rfl) h

theorem fastest_le {cs : List Contender} (h : fastest cs = some x) {y : Contender} (hy : y ∈ cs) :
    x.latency ≤ y.latency := by
  obtain ⟨k, hk, -, hleast⟩ := fastest_spec h
  obtain ⟨j, hj, rfl⟩ := List.getElem_of_mem hy
  exact (hleast j hj).1

/-- The fastest is the fallback: then it is behind every usable candidate, so it wins strictly. -/
theorem fastest_contenders_fallback (h : fastest (s.contenders r c n) = some x) (hx : x.fallback = true) :
    r.fallback = some x.path ∧ s.pathUsable c x.path = true ∧ x.latency = s.totalLatency x.path n ∧
      ∀ q ∈ r.candidates, s.pathUsable c q = true →
        s.classes[c].fibreCompetes = true ∧ x.latency < s.totalLatency q n := by
  obtain ⟨k, hk, hkx, hleast⟩ := fastest_spec h
  simp only [State.contenders_eq] at hk hkx hleast
  have hbehind : (s.candidateContenders r c n).length ≤ k := by
    by_contra hlt
    rw [List.getElem_append_left (Nat.lt_of_not_le hlt)] at hkx
    have hcandidate := State.fallback_of_mem_candidateContenders (hkx ▸ List.getElem_mem _)
    exact Bool.false_ne_true (hcandidate.symm.trans hx)
  rw [List.getElem_append_right hbehind] at hkx
  obtain ⟨p, hf, hu, hcompetes, rfl⟩ := State.mem_fallbackContenders.mp (hkx ▸ List.getElem_mem _)
  refine ⟨hf, hu, rfl, fun q hq hqu => ⟨hcompetes.resolve_right fun hnone => hnone q hq hqu, ?_⟩⟩
  obtain ⟨j, hj, hjq⟩ := List.getElem_of_mem (State.mem_candidateContenders (n := n).mpr ⟨q, hq, hqu, rfl⟩)
  have hless := (hleast j ((hj.trans_le hbehind).trans hk)).2 (hj.trans_le hbehind)
  rwa [List.getElem_append_left hj, hjq] at hless

/-- The fastest is a candidate: then it is the first usable one of its latency. -/
theorem fastest_contenders_candidate (h : fastest (s.contenders r c n) = some x) (hx : x.fallback = false) :
    ∃ (i : Nat) (hi : i < r.candidates.length), x = s.contender n false r.candidates[i] ∧
      s.pathUsable c r.candidates[i] = true ∧
      ∀ (j : Nat) (hj : j < i), s.pathUsable c r.candidates[j] = true →
        x.latency < s.totalLatency r.candidates[j] n := by
  obtain ⟨k, hk, hkx, hleast⟩ := fastest_spec h
  simp only [State.contenders_eq] at hk hkx hleast
  have hamong : k < (s.candidateContenders r c n).length := by
    by_contra hge
    rw [List.getElem_append_right (Nat.le_of_not_lt hge)] at hkx
    have hfallback := State.fallback_of_mem_fallbackContenders (hkx ▸ List.getElem_mem _)
    exact Bool.false_ne_true (hx.symm.trans hfallback)
  have hlength : (s.candidateContenders r c n).length = (r.candidates.filter (s.pathUsable c)).length :=
    List.length_map _
  obtain ⟨i, hi, heq, hbefore⟩ := exists_getElem_eq_filter_getElem (s.pathUsable c) (hlength ▸ hamong)
  rw [List.getElem_append_left hamong] at hkx
  refine ⟨i, hi, ?_, ?_, fun j hj hu => ?_⟩
  · rw [heq, ← hkx]
    exact List.getElem_map _
  · rw [heq]
    exact (List.mem_filter.mp (List.getElem_mem _)).2
  · obtain ⟨m, hm, hmj⟩ := hbefore j hj hu
    have hless := (hleast m (hm.trans hk)).2 hm
    rw [List.getElem_append_left (hm.trans hamong)] at hless
    simp only [State.candidateContenders, List.getElem_map, hmj] at hless
    exact hless

end

/-! ### The state that goes with a choice, and the recomputed record (R131) -/

section
variable {best : Option Contender}

theorem choiceState_ne_vacant : choiceState best ≠ .vacant := by
  cases best with
  | none => exact RouteState.noConfusion
  | some x => cases hx : x.fallback <;> simp [choiceState, hx]

theorem choiceState_eq_dark_iff : choiceState best = .dark ↔ best = none := by
  cases best with
  | none => simp [choiceState]
  | some x => cases hx : x.fallback <;> simp [choiceState, hx]

theorem choiceState_eq_normal_iff : choiceState best = .normal ↔ ∃ x, best = some x ∧ x.fallback = false := by
  cases best with
  | none => simp [choiceState]
  | some x => cases hx : x.fallback <;> simp [choiceState, hx]

theorem choiceState_eq_fallback_iff : choiceState best = .fallback ↔ ∃ x, best = some x ∧ x.fallback = true := by
  cases best with
  | none => simp [choiceState]
  | some x => cases hx : x.fallback <;> simp [choiceState, hx]

/-- The recomputed record from the fastest contender. -/
theorem State.recomputed_eq {s : State} {r : Route} (h : fastest (s.contenders r 0 (max r.refLength.toNat 1)) = best) :
    s.recomputed r =
      { r with
        state := choiceState best
        choice := best.map Contender.path
        latency := (best.map Contender.latency).getD 0
        rerank := false
        attention :=
          r.attention || decide (best.map Contender.path ≠ r.choice ∨ choiceState best ≠ r.state) } := by
  subst h
  rw [Bool.decide_or, ← Bool.or_assoc]
  rfl

end

/-- Settles O42: the state says which kind of contender is the fastest, and the position of the fastest among the
contenders says against which it won a tie. -/
theorem recomputationChoosesLeastLatency : Obligations.RecomputationChoosesLeastLatency := by
  intro s r n usable y
  obtain ⟨best, hbest⟩ : ∃ best, fastest (s.contenders r 0 n) = best := ⟨_, rfl⟩
  have hy : y = _ := s.recomputed_eq hbest
  have hnone : y.choice = none ↔ best = none := by rw [hy]; exact Option.map_eq_none_iff
  have hdark : y.state = .dark ↔ best = none := by rw [hy]; exact choiceState_eq_dark_iff
  refine ⟨hdark.trans hnone.symm, ?vacant, hnone.trans ?none, fun hd => ?latency, fun hs => ?normal,
    fun hs => ?fallback, ?attention, ?frame, ?rerank⟩
  case vacant => rw [hy]; exact choiceState_ne_vacant
  case none => rw [← hbest]; exact firstBest_eq_none.trans State.contenders_eq_nil_iff
  case latency => rw [hy, hdark.mp hd]; rfl
  case normal =>
    rw [hy] at hs ⊢
    obtain ⟨x, rfl, hx⟩ := choiceState_eq_normal_iff.mp hs
    obtain ⟨i, hi, rfl, hu, hties⟩ := fastest_contenders_candidate hbest hx
    exact ⟨i, hi, rfl, hu, rfl,
      fun j hj huj => ⟨fastest_le hbest (State.candidate_mem_contenders (List.getElem_mem hj) huj),
        fun hji => hties j hji huj⟩,
      fun p hf hup hc => fastest_le hbest (State.fallback_mem_contenders hf hup (.inl hc))⟩
  case fallback =>
    rw [hy] at hs ⊢
    obtain ⟨x, rfl, hx⟩ := choiceState_eq_fallback_iff.mp hs
    obtain ⟨hf, hu, hlatency, hbeaten⟩ := fastest_contenders_fallback hbest hx
    exact ⟨x.path, hf, rfl, hu, hlatency, hbeaten⟩
  case attention => rw [hy]
  case frame => rw [hy]
  case rerank => rw [hy]

end Sys2Proof.Machine
end

section
/-! PROOF of O46. The computation of a lookup: the contenders and the bounded arrival as R150 and R151 word them,
the verdict that each choice settles on (R152, R153, R155), and the state that goes with each answer (R148, R150,
R154, R156, R157). -/

namespace Sys2Proof.Machine

open Sys2Proof

/-! ### The contenders of a lookup (R150) -/

/-- The fallback is weighed by propositions in R150 and by Booleans in `State.contenders`. -/
theorem State.contenders_eq_usable_append (s : State) (r : Route) (c : ClassIndex) (n : Nat) :
    s.contenders r c n =
      (r.candidates.filter fun p => s.pathUsable c p).map (fun p => ⟨p, s.totalLatency p n, false⟩) ++
        match r.fallback with
        | some p =>
          if s.pathUsable c p = true ∧
              (s.classes[c].fibreCompetes = true ∨ (r.candidates.filter fun p => s.pathUsable c p) = []) then
            [⟨p, s.totalLatency p n, true⟩]
          else []
        | none => [] := by
  unfold State.contenders
  cases r.fallback with
  | none => rfl
  | some p => simp only [Bool.and_eq_true, Bool.or_eq_true, List.isEmpty_iff]

/-! ### The offer of a contender (R151) -/

/-- What a contender offers a time-valid lookup, from the context as it is read. -/
def State.offerFor (s : State) (r : Route) (q : Lookup) (c : Contender) : Offer :=
  offer (s.earliest q) (s.bound r q.cls) c

section
variable {s : State} {r : Route} {q : Lookup} {rest : List Lookup} {cs : List Contender} {v : Verdict} {i : Nat}

/-- The bounded arrival is the greater of U and A_last + g where ordering applies, and U otherwise. -/
theorem State.offerFor_bounded (c : Contender) :
    (s.offerFor r q c).bounded =
      if s.classes[q.cls].ordering = true ∧
          (r.contexts[q.cls].valid && decide (s.routeTaken = s.time.epoch)) = true ∧
          (s.offerFor r q c).unbounded < r.contexts[q.cls].last + s.classes[q.cls].gap.setWidth 64 then
        r.contexts[q.cls].last + s.classes[q.cls].gap.setWidth 64
      else (s.offerFor r q c).unbounded := by
  unfold State.offerFor offer State.bound State.contextAsRead
  cases s.classes[q.cls].ordering <;>
    cases r.contexts[q.cls].valid && decide (s.routeTaken = s.time.epoch) <;> simp

/-! ### The three choices, each by the position of its winner (R152, R153, R155) -/

theorem fastest_eq_getElem (hi : i < cs.length)
    (h : ∀ (j : Nat) (hj : j < cs.length),
      cs[i].latency < cs[j].latency ∨ (cs[i].latency = cs[j].latency ∧ i ≤ j)) :
    fastest cs = some cs[i] :=
  firstBest_unique (key := Contender.latency) (fun _ _ => rfl) hi h

theorem firstBest_earlier_eq_getElem {offers : List Offer} (hi : i < offers.length)
    (h : ∀ (j : Nat) (hj : j < offers.length),
      offers[i].unbounded < offers[j].unbounded ∨ (offers[i].unbounded = offers[j].unbounded ∧ i ≤ j)) :
    firstBest Offer.earlier offers = some offers[i] :=
  firstBest_unique earlier_key hi fun j hj => (h j hj).imp_right (And.imp_left (congrArg BitVec.toNat))

theorem firstBest_beats_eq_getElem {offers : List Offer} (hi : i < offers.length)
    (h : ∀ (j : Nat) (hj : j < offers.length),
      offers[i].bounded < offers[j].bounded ∨
        (offers[i].bounded = offers[j].bounded ∧
          (offers[i].hold < offers[j].hold ∨ (offers[i].hold = offers[j].hold ∧ i ≤ j)))) :
    firstBest Offer.beats offers = some offers[i] := by
  refine firstBest_unique beats_key hi fun j hj => ?_
  have hfits := offers[i].hold.isLt
  rcases h j hj with harrival | ⟨harrival, hhold | ⟨hhold, hij⟩⟩
  · rw [BitVec.lt_def] at harrival
    exact .inl (by omega)
  · rw [BitVec.lt_def] at hhold
    exact .inl (by rw [harrival]; omega)
  · exact .inr ⟨by rw [harrival, hhold], hij⟩

/-! ### The verdict of each choice -/

theorem State.verdict_nil : s.verdict r q [] = none := by
  unfold State.verdict
  split <;> rfl

/-- Without a valid time the fastest contender is chosen, and every time is 0 (R155). -/
theorem State.verdict_timeInvalid (ht : s.timeValid q = false) (hi : i < cs.length)
    (h : ∀ (j : Nat) (hj : j < cs.length),
      cs[i].latency < cs[j].latency ∨ (cs[i].latency = cs[j].latency ∧ i ≤ j)) :
    s.verdict r q cs = some ⟨cs[i], 0, 0, 0, false⟩ := by
  rw [State.verdict, ht, if_neg Bool.false_ne_true, fastest_eq_getElem hi h]
  rfl

/-- Position `i` is chosen by bounded arrival, then hold, then position (R152). -/
def State.BoundedWinner (s : State) (r : Route) (q : Lookup) (cs : List Contender) (i : Nat)
    (hi : i < cs.length) : Prop :=
  ∀ (j : Nat) (hj : j < cs.length),
    (s.offerFor r q cs[i]).bounded < (s.offerFor r q cs[j]).bounded ∨
      ((s.offerFor r q cs[i]).bounded = (s.offerFor r q cs[j]).bounded ∧
        ((s.offerFor r q cs[i]).hold < (s.offerFor r q cs[j]).hold ∨
          ((s.offerFor r q cs[i]).hold = (s.offerFor r q cs[j]).hold ∧ i ≤ j)))

/-- The verdict of a time-valid lookup turns on the hold of the bounded winner alone. -/
theorem State.verdict_of_boundedWinner (ht : s.timeValid q = true) {hi : i < cs.length}
    (h : s.BoundedWinner r q cs i hi) :
    s.verdict r q cs =
      if (s.offerFor r q cs[i]).hold.toNat ≤ s.classes[q.cls].maxHold.toNat then
        some ⟨cs[i], s.earliest q + (s.offerFor r q cs[i]).hold, (s.offerFor r q cs[i]).bounded,
          (s.offerFor r q cs[i]).hold, false⟩
      else (firstBest Offer.earlier (cs.map (s.offerFor r q))).map fun w =>
        ⟨w.contender, s.earliest q, w.unbounded, 0, true⟩ := by
  have hchosen : firstBest Offer.beats (cs.map (s.offerFor r q)) = some (s.offerFor r q cs[i]) := by
    rw [firstBest_beats_eq_getElem (i := i) (by simpa using hi), List.getElem_map]
    intro j hj
    simpa only [List.getElem_map] using h j (by simpa using hj)
  rw [State.verdict, if_pos ht]
  change chooseOffer (s.earliest q) _ (cs.map (s.offerFor r q)) = _
  rw [chooseOffer, hchosen]
  rfl

/-- A hold within the maximum of the class: the bounded choice stands (R152). -/
theorem State.verdict_stands (ht : s.timeValid q = true) {hi : i < cs.length} (h : s.BoundedWinner r q cs i hi)
    (hhold : (s.offerFor r q cs[i]).hold.toNat ≤ s.classes[q.cls].maxHold.toNat) :
    s.verdict r q cs =
      some ⟨cs[i], s.earliest q + (s.offerFor r q cs[i]).hold, (s.offerFor r q cs[i]).bounded,
        (s.offerFor r q cs[i]).hold, false⟩ := by
  rw [State.verdict_of_boundedWinner ht h, if_pos hhold]

/-- A hold beyond the maximum of the class: the choice is remade by unbounded arrival, and waived (R153). -/
theorem State.verdict_waived (ht : s.timeValid q = true) {hi : i < cs.length} (h : s.BoundedWinner r q cs i hi)
    (hhold : s.classes[q.cls].maxHold.toNat < (s.offerFor r q cs[i]).hold.toNat)
    {k : Nat} (hk : k < cs.length)
    (hearliest : ∀ (j : Nat) (hj : j < cs.length),
      (s.offerFor r q cs[k]).unbounded < (s.offerFor r q cs[j]).unbounded ∨
        ((s.offerFor r q cs[k]).unbounded = (s.offerFor r q cs[j]).unbounded ∧ k ≤ j)) :
    s.verdict r q cs = some ⟨cs[k], s.earliest q, (s.offerFor r q cs[k]).unbounded, 0, true⟩ := by
  have hchosen : firstBest Offer.earlier (cs.map (s.offerFor r q)) = some (s.offerFor r q cs[k]) := by
    rw [firstBest_earlier_eq_getElem (i := k) (by simpa using hk), List.getElem_map]
    intro j hj
    simpa only [List.getElem_map] using hearliest j (by simpa using hj)
  rw [State.verdict_of_boundedWinner ht h, if_neg (Nat.not_le.mpr hhold), hchosen]
  rfl

/-! ### The answer and the route record that go with each verdict -/

theorem Route.nonVacant_iff : r.nonVacant = true ↔ r.state ≠ .vacant := decide_eq_true_iff

/-- A VACANT route answers NO-ROUTE and keeps its record (R148). -/
theorem State.compute_noRoute (hr : s.routes[q.site] = r) (hvacant : r.state = .vacant) :
    s.compute q = (.empty q.tag .noRoute (!s.timeValid q), r) := by
  have hn : r.nonVacant = false := Bool.eq_false_iff.mpr fun h => Route.nonVacant_iff.mp h hvacant
  simp only [State.compute, hr, hn]
  rfl

/-- Any other route without a contender answers NO-PATH and counts it (R150, R157). -/
theorem State.compute_noPath (hr : s.routes[q.site] = r) (hroute : r.state ≠ .vacant)
    (hnone : s.contenders r q.cls q.length.toNat = []) :
    s.compute q =
      (.empty q.tag .noPath (!s.timeValid q),
        { r with counters := { r.counters with noPath := countAnswer r.counters.noPath } }) := by
  simp only [State.compute, hr, Route.nonVacant_iff.mpr hroute, hnone, State.verdict_nil]
  rfl

/-- Any other route with a verdict answers OK (R156). -/
theorem State.compute_ok (hr : s.routes[q.site] = r) (hroute : r.state ≠ .vacant)
    (hverdict : s.verdict r q (s.contenders r q.cls q.length.toNat) = some v) :
    s.compute q = (s.okAnswer q v, s.afterOk r q v) := by
  simp only [State.compute, hr, Route.nonVacant_iff.mpr hroute, hverdict]
  rfl

theorem countAnswer_eq (n : Nat) : countAnswer n = min (n + 1) 4294967295 := rfl

/-- The context moves with a time-valid answer of a class with ordering on, and never back (R154). -/
theorem State.afterOk_eq :
    s.afterOk r q v =
      { r with
        counters :=
          { r.counters with
            ok := min (r.counters.ok + 1) 4294967295
            fallback :=
              if v.contender.fallback = true then min (r.counters.fallback + 1) 4294967295
              else r.counters.fallback
            waived := if v.waived = true then min (r.counters.waived + 1) 4294967295 else r.counters.waived }
        contexts :=
          if s.timeValid q = true ∧ s.classes[q.cls].ordering = true then
            r.contexts.set q.cls
              ⟨true,
                if (r.contexts[q.cls].valid && decide (s.routeTaken = s.time.epoch)) = true ∧
                    v.arrival ≤ r.contexts[q.cls].last then
                  r.contexts[q.cls].last
                else v.arrival⟩
          else r.contexts } := by
  have hcontext : updatedContext (s.contextAsRead r q.cls) v.arrival =
      ⟨true,
        if (r.contexts[q.cls].valid && decide (s.routeTaken = s.time.epoch)) = true ∧
            v.arrival ≤ r.contexts[q.cls].last then
          r.contexts[q.cls].last
        else v.arrival⟩ := by
    unfold State.contextAsRead
    cases r.contexts[q.cls].valid && decide (s.routeTaken = s.time.epoch) with
    | false => simp [updatedContext]
    | true => simp only [updatedContext, if_true, true_and, ← BitVec.not_lt, ite_not]
  simp only [State.afterOk, hcontext, Bool.and_eq_true, RouteCounters.countOk, countAnswer_eq]

/-! ### The command (R146, R147) -/

/-- The head lookup leaves the queue, its answer fills the stage, and its route record is written. -/
def State.answerHead (s : State) (q : Lookup) (rest : List Lookup) (x : Answer) (y : Route) : State :=
  (s.setRoute q.site y).setSteering { s.steering with queue := rest, answer := some ⟨x, 0⟩ }

theorem exec_lookupComputation_head (hstage : s.steering.answer = none) (hqueue : s.steering.queue = q :: rest) :
    exec .lookupComputation s = .next (s.answerHead q rest (s.compute q).1 (s.compute q).2) := by
  change execLookupComputation s = _
  simp only [execLookupComputation, hstage, hqueue, State.answerHead]

theorem exec_lookupComputation_noRoute (hstage : s.steering.answer = none)
    (hqueue : s.steering.queue = q :: rest) (hr : s.routes[q.site] = r) (hvacant : r.state = .vacant) :
    exec .lookupComputation s = .next (s.answerHead q rest (.empty q.tag .noRoute (!s.timeValid q)) r) := by
  rw [exec_lookupComputation_head hstage hqueue, State.compute_noRoute hr hvacant]

theorem exec_lookupComputation_noPath (hstage : s.steering.answer = none)
    (hqueue : s.steering.queue = q :: rest) (hr : s.routes[q.site] = r) (hroute : r.state ≠ .vacant)
    (hnone : s.contenders r q.cls q.length.toNat = []) :
    exec .lookupComputation s =
      .next (s.answerHead q rest (.empty q.tag .noPath (!s.timeValid q))
        { r with counters := { r.counters with noPath := min (r.counters.noPath + 1) 4294967295 } }) := by
  rw [exec_lookupComputation_head hstage hqueue, State.compute_noPath hr hroute hnone, countAnswer_eq]

theorem exec_lookupComputation_ok (hstage : s.steering.answer = none)
    (hqueue : s.steering.queue = q :: rest) (hr : s.routes[q.site] = r) (hroute : r.state ≠ .vacant)
    (hverdict : s.verdict r q (s.contenders r q.cls q.length.toNat) = some v) :
    exec .lookupComputation s = .next (s.answerHead q rest (s.okAnswer q v) (s.afterOk r q v)) := by
  rw [exec_lookupComputation_head hstage hqueue, State.compute_ok hr hroute hverdict]

end

/-- Settles O46: the contenders and the bounded arrival of the statement are the model's, and the position of the
winner in each clause fixes the verdict, hence the answer and the record. -/
theorem lookupIsAnsweredByTheRules : Obligations.LookupIsAnsweredByTheRules := by
  intro s q rest hstage hqueue r policy n usable cs valid t0 read last up u a answered ok
  have hcs : cs = s.contenders r q.cls n := (s.contenders_eq_usable_append r q.cls n).symm
  have harrival : a = fun c => (s.offerFor r q c).bounded := funext fun c => (State.offerFor_bounded c).symm
  clear_value cs a
  subst hcs harrival
  refine ⟨fun hvacant => ?noRoute, fun hroute hnone => ?noPath, fun hroute ht i hi hfastest => ?timeInvalid,
    fun hroute ht i hi hwins => ⟨fun hhold => ?stands, fun hhold k hk hearliest => ?waived⟩⟩
  case noRoute => exact exec_lookupComputation_noRoute hstage hqueue rfl hvacant
  case noPath => exact exec_lookupComputation_noPath hstage hqueue rfl hroute hnone
  case timeInvalid =>
    have hverdict := State.verdict_timeInvalid (r := r) ht hi hfastest
    rw [exec_lookupComputation_ok hstage hqueue rfl hroute hverdict, State.afterOk_eq]
    rfl
  case stands =>
    have hverdict := State.verdict_stands (r := r) ht (hi := hi) hwins hhold
    rw [exec_lookupComputation_ok hstage hqueue rfl hroute hverdict, State.afterOk_eq]
    rfl
  case waived =>
    have hverdict := State.verdict_waived (r := r) ht (hi := hi) hwins hhold hk hearliest
    rw [exec_lookupComputation_ok hstage hqueue rfl hroute hverdict, State.afterOk_eq]
    rfl

end Sys2Proof.Machine
end

section
/-! PROOF, for the statements about every command. What a command can do to the tables, said once: a request is the
apply at its own block, and every other command is a change of bookkeeping, or one of the listed events. The
invariants of the steps are proved from `exec_event`, one case per event. -/

namespace Sys2Proof.Machine

open Sys2Proof

/-! ### Requests applied outside the hop update arbiter -/

/-- The apply of a request at its own block, with the answer; none for any other command. -/
def directApply (c : Instr) (s : State) : Option (State × Reply) :=
  match c with
  | .run l => some (s.setLine l s.lines[l].run, .done)
  | .suspend l => some (s.setLine l s.lines[l].suspend, .done)
  | .stop l => some (s.setLine l s.lines[l].stop, .done)
  | .readLine l zero => some (s.setLine l (s.lines[l].afterRead zero), .read s.lines[l].image)
  | .placeHold k map => some (applyPlaceHold k map s)
  | .releaseHold k => some (applyReleaseHold k s)
  | .readHolds => some (s, .read (holdsImage s.holds))
  | .writeProfiles entries => some (applyWriteProfiles entries s)
  | .readProfiles => some (s, .read (profilesImage s.profiles))
  | .writePath p image => some (guarded (.writePath p image) (applyWritePath p image) s)
  | .retirePath p => some (applyRetirePath p s)
  | .restartEstimate p => some (applyRestartEstimate p s)
  | .readPath p => some (s, .read (s.pathImage p))
  | .setTime v => some (applySetTime v s)
  | .adjustTime offset => some (applyAdjustTime offset s)
  | .writeTiming image => some (guarded (.writeTiming image) (applyWriteTiming image) s)
  | .readTime => some (s, .read s.time.image)
  | .writeDevice image => some (guarded (.writeDevice image) (applyWriteDevice image) s)
  | .readDevice zero => some (applyReadDevice zero s)
  | .writeClass k image => some (guarded (.writeClass k image) (applyWriteClass k image) s)
  | .readClass k => some (s, .read s.classes[k].image)
  | .collect => some (applyCollect s)
  | .writeRoute r image => some (guarded (.writeRoute r image) (applyWriteRoute r image) s)
  | .retireRoute r => some (applyRetireRoute r s)
  | .readRoute r => some (s, .read s.routes[r].image)
  | .jump _ => some (s, .done)
  | _ => none

theorem directApply_isSome {c : Instr} (h : directRequest c = true) (s : State) :
    ∃ out, directApply c s = some out := by
  cases c <;> first | exact ⟨_, rfl⟩ | exact absurd h Bool.false_ne_true

/-- A request applied at its own block is its apply, settled with the block in execution (R176). -/
theorem exec_of_directApply {c : Instr} {s : State} {out : State × Reply} (h : directApply c s = some out) :
    exec c s = .next (State.settle c out) := by
  cases c <;> first | (obtain rfl := Option.some.inj h; rfl) | exact nomatch (show none = some out from h)

/-! ### The tables -/

/-- What the invariants of the tables, the time and the queues are about: all but the channel, the answer and other
bookkeeping. -/
structure Tables where
  hops : Vector Hop 64
  holds : Vector (Option (BitVec 64)) 8
  paths : Vector Path 128
  routes : Vector Route 32
  attentionCount : Nat
  time : TimeBase
  slots : Vector Slot 32
  backlog : List EchoEntry
  queue : List Lookup
  answer : Option AnswerStage

/-- The tables of a state. -/
def State.tables (s : State) : Tables where
  hops := s.hops
  holds := s.holds
  paths := s.paths
  routes := s.routes
  attentionCount := s.attentionCount
  time := s.time
  slots := s.probe.slots
  backlog := s.probe.backlog
  queue := s.steering.queue
  answer := s.steering.answer

/-- An operation on the channel keeps the tables. -/
theorem State.onlyChan.tables {s t : State} (h : s.onlyChan t) : t.tables = s.tables := by
  obtain ⟨c, rfl⟩ := h
  rfl

/-- Settling an apply keeps the tables that the apply left. -/
theorem settle_tables (c : Instr) (out : State × Reply) : (State.settle c out).tables = out.1.tables :=
  (settle_onlyChan c out).tables

/-! ### The events -/

/-- Path `p` is emptied and its slots are freed; the routes still name it (R71 steps 3 and 4). -/
def State.emptyPath (p : PathIndex) (s : State) : State :=
  (s.setPath p (Path.vacant s.paths[p].nextSeq (s.paths[p].generation + 1))).freeSlots (Slot.names p)

@[simp] theorem State.emptyPath_hops (p : PathIndex) (s : State) : (s.emptyPath p).hops = s.hops := by
  simp only [State.emptyPath, State.freeSlots_hops, State.setPath_hops]

@[simp] theorem State.emptyPath_holds (p : PathIndex) (s : State) : (s.emptyPath p).holds = s.holds := by
  simp only [State.emptyPath, State.freeSlots_holds, State.setPath_holds]

@[simp] theorem State.emptyPath_routes (p : PathIndex) (s : State) : (s.emptyPath p).routes = s.routes := by
  simp only [State.emptyPath, State.freeSlots_routes, State.setPath_routes]

@[simp] theorem State.emptyPath_attentionCount (p : PathIndex) (s : State) :
    (s.emptyPath p).attentionCount = s.attentionCount := by
  simp only [State.emptyPath, State.freeSlots_attentionCount, State.setPath_attentionCount]

@[simp] theorem State.emptyPath_time (p : PathIndex) (s : State) : (s.emptyPath p).time = s.time := by
  simp only [State.emptyPath, State.freeSlots_time, State.setPath_time]

@[simp] theorem State.emptyPath_steering (p : PathIndex) (s : State) : (s.emptyPath p).steering = s.steering := by
  simp only [State.emptyPath, State.freeSlots_steering, State.setPath_steering]

@[simp] theorem State.emptyPath_classes (p : PathIndex) (s : State) : (s.emptyPath p).classes = s.classes := by
  simp only [State.emptyPath, State.freeSlots_classes, State.setPath_classes]

/-- The routes drop path `p` one after another (R71 steps 1, 2 and 5). -/
def State.dropFromRoutes (p : PathIndex) (l : List RouteIndex) (s : State) : State :=
  l.foldl (State.dropFromRoute p) s

/-- Writing a route record reaches the routes and the accounting of attention alone. -/
theorem State.putRoute_frame (i : RouteIndex) (x : Route) (s : State) :
    { s.putRoute i x with routes := s.routes, attentionCount := s.attentionCount, chan := s.chan } = s := by
  simp

theorem State.dropFromRoute_frame (p : PathIndex) (s : State) (i : RouteIndex) :
    { s.dropFromRoute p i with routes := s.routes, attentionCount := s.attentionCount, chan := s.chan } = s := by
  unfold State.dropFromRoute
  dsimp only
  split
  · exact s.putRoute_frame i _
  · rfl

theorem State.dropFromRoutes_frame (p : PathIndex) (l : List RouteIndex) (s : State) :
    { s.dropFromRoutes p l with routes := s.routes, attentionCount := s.attentionCount, chan := s.chan } = s := by
  induction l generalizing s with
  | nil => rfl
  | cons i l ih =>
    have hrest := ih (s.dropFromRoute p i)
    have hfirst := s.dropFromRoute_frame p i
    calc { (s.dropFromRoute p i).dropFromRoutes p l with
            routes := s.routes, attentionCount := s.attentionCount, chan := s.chan }
        = { s.dropFromRoute p i with routes := s.routes, attentionCount := s.attentionCount, chan := s.chan } :=
          congrArg (fun u : State =>
            { u with routes := s.routes, attentionCount := s.attentionCount, chan := s.chan }) hrest
      _ = s := hfirst

@[simp] theorem State.dropFromRoutes_hops (p : PathIndex) (l : List RouteIndex) (s : State) :
    (s.dropFromRoutes p l).hops = s.hops := by
  have h := congrArg State.hops (s.dropFromRoutes_frame p l)
  exact h

@[simp] theorem State.dropFromRoutes_holds (p : PathIndex) (l : List RouteIndex) (s : State) :
    (s.dropFromRoutes p l).holds = s.holds := by
  have h := congrArg State.holds (s.dropFromRoutes_frame p l)
  exact h

@[simp] theorem State.dropFromRoutes_paths (p : PathIndex) (l : List RouteIndex) (s : State) :
    (s.dropFromRoutes p l).paths = s.paths := by
  have h := congrArg State.paths (s.dropFromRoutes_frame p l)
  exact h

@[simp] theorem State.dropFromRoutes_time (p : PathIndex) (l : List RouteIndex) (s : State) :
    (s.dropFromRoutes p l).time = s.time := by
  have h := congrArg State.time (s.dropFromRoutes_frame p l)
  exact h

@[simp] theorem State.dropFromRoutes_probe (p : PathIndex) (l : List RouteIndex) (s : State) :
    (s.dropFromRoutes p l).probe = s.probe := by
  have h := congrArg State.probe (s.dropFromRoutes_frame p l)
  exact h

@[simp] theorem State.dropFromRoutes_steering (p : PathIndex) (l : List RouteIndex) (s : State) :
    (s.dropFromRoutes p l).steering = s.steering := by
  have h := congrArg State.steering (s.dropFromRoutes_frame p l)
  exact h

/-- RETIRE-PATH empties the record, then every route drops it. -/
theorem applyRetirePath_eq (p : PathIndex) (s : State) :
    applyRetirePath p s = (((s.emptyPath p).dropFromRoutes p (List.finRange 32)).trigger (.path p), .done) := rfl

/-- A route after a write of class `k` (R127). -/
def Route.forgetClass (k : ClassIndex) (r : Route) : Route :=
  { r with contexts := r.contexts.set k .invalid, rerank := r.rerank || r.nonVacant }

/-- A route after a trigger that marks the routes `m` names (R128). -/
def Route.markedBy (m : Route → Bool) (r : Route) : Route := if m r then { r with rerank := true } else r

/-- Every route after a change `f`. -/
def State.mapRoutes (f : Route → Route) (s : State) : State := { s with routes := s.routes.map f }

@[simp] theorem State.mapRoutes_routes (f : Route → Route) (s : State) : (s.mapRoutes f).routes = s.routes.map f := by
  simp only [State.mapRoutes]

@[simp] theorem State.mapRoutes_hops (f : Route → Route) (s : State) : (s.mapRoutes f).hops = s.hops := by
  simp only [State.mapRoutes]

@[simp] theorem State.mapRoutes_holds (f : Route → Route) (s : State) : (s.mapRoutes f).holds = s.holds := by
  simp only [State.mapRoutes]

@[simp] theorem State.mapRoutes_paths (f : Route → Route) (s : State) : (s.mapRoutes f).paths = s.paths := by
  simp only [State.mapRoutes]

@[simp] theorem State.mapRoutes_attentionCount (f : Route → Route) (s : State) :
    (s.mapRoutes f).attentionCount = s.attentionCount := by
  simp only [State.mapRoutes]

@[simp] theorem State.mapRoutes_time (f : Route → Route) (s : State) : (s.mapRoutes f).time = s.time := by
  simp only [State.mapRoutes]

@[simp] theorem State.mapRoutes_probe (f : Route → Route) (s : State) : (s.mapRoutes f).probe = s.probe := by
  simp only [State.mapRoutes]

@[simp] theorem State.mapRoutes_steering (f : Route → Route) (s : State) : (s.mapRoutes f).steering = s.steering := by
  simp only [State.mapRoutes]

/-- `s` with the path table and the probe slots of `u`. -/
def State.withPathsOf (s u : State) : State :=
  { s with paths := u.paths, probe := { s.probe with slots := u.probe.slots } }

/-! ### What a change of the levels, and a change of paths and slots, leaves of the other tables -/

/-- A hop record after a change of the levels (R47). -/
theorem State.changeHolds_hop (holds : Vector (Option (BitVec 64)) 8) (s : State) (i : HopIndex) :
    (s.changeHolds holds).hops[i] = if s.heldChanges holds i then s.hops[i].heldChange else s.hops[i] := by
  simp only [State.changeHolds, tabulate_get]

@[simp] theorem State.changeHolds_holds (holds : Vector (Option (BitVec 64)) 8) (s : State) :
    (s.changeHolds holds).holds = holds := by
  simp only [State.changeHolds]

@[simp] theorem State.changeHolds_paths (holds : Vector (Option (BitVec 64)) 8) (s : State) :
    (s.changeHolds holds).paths = s.paths := by
  simp only [State.changeHolds]

@[simp] theorem State.changeHolds_routes (holds : Vector (Option (BitVec 64)) 8) (s : State) :
    (s.changeHolds holds).routes = s.routes := by
  simp only [State.changeHolds]

@[simp] theorem State.changeHolds_attentionCount (holds : Vector (Option (BitVec 64)) 8) (s : State) :
    (s.changeHolds holds).attentionCount = s.attentionCount := by
  simp only [State.changeHolds]

@[simp] theorem State.changeHolds_time (holds : Vector (Option (BitVec 64)) 8) (s : State) :
    (s.changeHolds holds).time = s.time := by
  simp only [State.changeHolds]

@[simp] theorem State.changeHolds_probe (holds : Vector (Option (BitVec 64)) 8) (s : State) :
    (s.changeHolds holds).probe = s.probe := by
  simp only [State.changeHolds]

@[simp] theorem State.changeHolds_steering (holds : Vector (Option (BitVec 64)) 8) (s : State) :
    (s.changeHolds holds).steering = s.steering := by
  simp only [State.changeHolds]

@[simp] theorem State.withPathsOf_paths (s u : State) : (s.withPathsOf u).paths = u.paths := by
  simp only [State.withPathsOf]

@[simp] theorem State.withPathsOf_slots (s u : State) : (s.withPathsOf u).probe.slots = u.probe.slots := by
  simp only [State.withPathsOf]

@[simp] theorem State.withPathsOf_backlog (s u : State) : (s.withPathsOf u).probe.backlog = s.probe.backlog := by
  simp only [State.withPathsOf]

@[simp] theorem State.withPathsOf_hops (s u : State) : (s.withPathsOf u).hops = s.hops := by
  simp only [State.withPathsOf]

@[simp] theorem State.withPathsOf_holds (s u : State) : (s.withPathsOf u).holds = s.holds := by
  simp only [State.withPathsOf]

@[simp] theorem State.withPathsOf_routes (s u : State) : (s.withPathsOf u).routes = s.routes := by
  simp only [State.withPathsOf]

@[simp] theorem State.withPathsOf_attentionCount (s u : State) :
    (s.withPathsOf u).attentionCount = s.attentionCount := by
  simp only [State.withPathsOf]

@[simp] theorem State.withPathsOf_time (s u : State) : (s.withPathsOf u).time = s.time := by
  simp only [State.withPathsOf]

@[simp] theorem State.withPathsOf_steering (s u : State) : (s.withPathsOf u).steering = s.steering := by
  simp only [State.withPathsOf]

/-- What a command can do to the tables, from the state before to the one after: bookkeeping that keeps them, or one
of the changes that an event makes. -/
inductive Event : Instr → State → State → Prop
  | same {c s t} (h : t.tables = s.tables) : Event c s t
  | powerOn {s} : Event .powerOnReset s s.powerOn
  | warm {source s} : Event (.warmReset source) s (s.warm source)
  | report {s} (i : HopIndex) (r : Report) (stamp : Quad) : Event .lineTurn s (s.putHop i (s.reportedHop i r stamp))
  | advanceHop {c s} (i : HopIndex) : Event c s (s.advanceHop i)
  | clearHold {c s} {i : HopIndex} (h : s.hops[i].clearHoldDue (s.held i) = true) :
      Event c s (s.putHop i s.hops[i].expireClearHold)
  | silence {c s} {i : HopIndex}
      (h : s.hops[i].silenceDue (s.held i) (s.lineRunning s.hops[i].config.line) = true) :
      Event c s (s.putHop i s.hops[i].enterDown)
  | writeHop {c s} (i : HopIndex) (x : HopConfig) :
      Event c s (s.putHop i (if s.hops[i].inService then s.hops[i].rewrite x else s.hops[i].enterService x))
  | retireHop {c s} {i : HopIndex} (h : s.hopListed i = false) :
      Event c s (s.putHop i (Hop.vacant (s.hops[i].generation + 1)))
  | clearHopCounts {c s} (i : HopIndex) : Event c s (s.putHop i { s.hops[i] with outage := 0, errors := 0 })
  | collectHop {s} (i : HopIndex) : Event .collect s (s.putHop i { s.hops[i] with attention := false })
  | placeHold {k map s} (h : s.holds[k].isSome = false) (hb : s.belowFree k = false) :
      Event (.placeHold k map) s (s.changeHolds (s.holds.set k (some map)))
  | releaseHold {k s} : Event (.releaseHold k) s (s.changeHolds (freeFrom k s.holds))
  | writePath {p image s} (h : image.check p s = none) :
      Event (.writePath p image) s (s.withPathsOf (applyWritePath p image s).1)
  | retirePath {p s} : Event (.retirePath p) s ((s.emptyPath p).dropFromRoutes p (List.finRange 32))
  | restartEstimate {p s} :
      Event (.restartEstimate p) s (s.setPath p { s.paths[p] with status := .none, accepted := 0, outlier := 0 })
  | pathTick {c s} (p : PathIndex) : Event c s (s.withPathsOf (s.takeTick (.path p)))
  | slotTick {c s} (k : SlotIndex) : Event c s (s.withPathsOf (s.takeTick (.slot k)))
  | matchEcho {bytes port s p q t1 n v} {k : SlotIndex} (h : s.probe.slots[k] = .sent p q t1 n v)
      (f : ReceivedFrame) (t4 : Quad) :
      Event (.probeFrameReceived bytes port) s (s.withPathsOf (s.matchEcho k p t1 f t4))
  | sendProbe {s p q} {k : SlotIndex} (h : s.probe.slots[k] = .queued p q) (t1 : Quad) :
      Event .probeTransmitGrant s
        (s.setSlot k (.sent p q t1 s.paths[p].config.effectiveEchoTimeout s.paths[p].generation))
  | sendEcho {s e rest} (h : s.probe.backlog = e :: rest) :
      Event .probeTransmitGrant s (s.setProbe { s.probe with backlog := rest })
  | takeProbe {bytes port s} (h : ¬ Config.backlogMax ≤ s.probe.backlog.length) (e : EchoEntry) :
      Event (.probeFrameReceived bytes port) s (s.setProbe { s.probe with backlog := s.probe.backlog ++ [e] })
  | freeSlots {c s} : Event c s (s.freeSlots fun _ => true)
  | emptyBacklog {s} : Event .stepSignalProbeEngine s (s.setProbe { s.probe with backlog := [] })
  | mark {w s} : Event (.reRankTrigger w) s (s.mapRoutes (Route.markedBy (s.marks w)))
  | recompute {s} {i : RouteIndex} (h : s.routes[i].rerank = true) :
      Event .recomputation s (s.putRoute i (s.recomputed s.routes[i]))
  | routeSignal {s} : Event .stepSignalRouteTable s (s.mapRoutes Route.invalidate)
  | writeClass {k image s} : Event (.writeClass k image) s (s.mapRoutes (Route.forgetClass k))
  | collectRoute {s} {i : RouteIndex} (h : s.routes[i].attention = true) :
      Event .collect s (s.putRoute i { s.routes[i] with attention := false })
  | writeRoute {i image s} (h : image.check s = none) :
      Event (.writeRoute i image) s (s.putRoute i (s.recomputed (s.routes[i].rewrite image)))
  | retireRoute {i s} : Event (.retireRoute i) s (s.putRoute i (Route.vacant (s.routes[i].generation + 1)))
  | lookup {s q rest} (ha : s.steering.answer = none) (hq : s.steering.queue = q :: rest) :
      Event .lookupComputation s (s.answerHead q rest (s.compute q).1 (s.compute q).2)
  | requestWord {w s} (h : s.steering.queue.length < Config.lookupQueueMax) (q : Lookup) :
      Event (.steeringRequestWord w) s (s.setSteering { s.steering with queue := s.steering.queue ++ [q] })
  | wordTaken {s a} (h : s.steering.answer = some a) : Event .answerWordTaken s
      (s.setSteering { s.steering with
        answer := if Config.answerWords ≤ a.taken + 1 then none else some { a with taken := a.taken + 1 } })
  | pulse {s x} (h : s.time.state ≠ .unset) (hx : x = s.acceptPulse.time) : Event .referencePulse s (s.setTime x)
  | supervisionTick {c s} : Event c s (s.setTime (s.takeTick .supervision).time)
  | period {s} : Event .oscillatorPeriod s (s.setTime s.time.period)
  | startTime {v s} (h : s.time.state = .unset) :
      Event (.setTime v) s (s.setTime { s.time with state := .set, count := v, fraction := 0 })
  | step {c s} (count : Quad) {fraction : Int} (h : fraction = 0 ∨ fraction = s.time.fraction) :
      Event c s (s.setTime { s.time with count := count, fraction := fraction, epoch := s.time.epoch + 1 })
  | writeTiming {image s} (h : image.check = none) : Event (.writeTiming image) s
      (s.setTime { s.time with
        stepLimit := image.stepLimit.setWidth 20
        integral := image.integral.setWidth 3
        proportional := image.proportional.setWidth 3 })

/-- The events of one command, one after another. -/
def Makes (c : Instr) : State → State → Prop := Relation.ReflTransGen (Event c)

section
variable {c : Instr} {s t u : State}

theorem Makes.refl (c : Instr) (s : State) : Makes c s s := Relation.ReflTransGen.refl

theorem Makes.of_event (h : Event c s t) : Makes c s t := Relation.ReflTransGen.single h

theorem Makes.trans (h : Makes c s t) (k : Makes c t u) : Makes c s u := Relation.ReflTransGen.trans h k

theorem Makes.of_tables (h : t.tables = s.tables) : Makes c s t := .of_event (.same h)

theorem Makes.of_onlyChan (h : s.onlyChan t) : Makes c s t := .of_tables h.tables

/-- An event whose outcome has the tables of `t`. -/
theorem Makes.to_tables (h : Event c s u) (k : t.tables = u.tables) : Makes c s t :=
  (Makes.of_event h).trans (.of_tables k)

/-- A command made from a state with the same tables. -/
theorem Makes.from_tables (h : Makes c u t) (k : u.tables = s.tables) : Makes c s t :=
  (Makes.of_tables k).trans h

theorem Makes.ite {p : Prop} [Decidable p] {u : State} (ht : p → Makes c s t) (hu : ¬ p → Makes c s u) :
    Makes c s (if p then t else u) := by
  split
  · exact ht ‹_›
  · exact hu ‹_›

/-! ### The tables after a trigger, and after the accounting of an attention flag -/

@[simp] theorem State.triggerIf_tables (b : Bool) (w : Trigger) (s : State) : (s.triggerIf b w).tables = s.tables := by
  cases b <;> rfl

@[simp] theorem State.trigger_tables (w : Trigger) (s : State) : (s.trigger w).tables = s.tables := rfl

/-! ### Requests at their own blocks -/

/-- A request whose image fails content validation makes no event; any other is its apply (R171). -/
theorem makes_guarded {apply : State → State × Reply} (h : contentFault c s = none → Makes c s (apply s).1) :
    Makes c s (guarded c apply s).1 := by
  cases hf : contentFault c s with
  | none => rw [guarded_pass hf]; exact h hf
  | some cause => rw [guarded_fault hf]; exact .refl c s

theorem makes_placeHold (k : LevelIndex) (map : BitVec 64) : Makes (.placeHold k map) s (applyPlaceHold k map s).1 := by
  unfold applyPlaceHold
  split
  · exact .refl _ s
  · split
    · exact .refl _ s
    · exact .of_event (.placeHold (by simpa using ‹¬ s.holds[k].isSome = true›)
        (by simpa using ‹¬ s.belowFree k = true›))

theorem makes_releaseHold (k : LevelIndex) : Makes (.releaseHold k) s (applyReleaseHold k s).1 := by
  unfold applyReleaseHold
  split
  · exact .refl _ s
  · exact .of_event .releaseHold

theorem makes_writePath {p : PathIndex} {image : PathImage} (h : image.check p s = none) :
    Makes (.writePath p image) s (applyWritePath p image s).1 := by
  refine .to_tables (.writePath h) ?_
  unfold applyWritePath
  dsimp only
  split
  · split <;> rfl
  · rfl

theorem makes_restartEstimate (p : PathIndex) : Makes (.restartEstimate p) s (applyRestartEstimate p s).1 := by
  unfold applyRestartEstimate
  split
  · exact .to_tables .restartEstimate rfl
  · exact .refl _ s

/-- A step moves the epoch; what it sends and counts is bookkeeping (R91, R92). -/
theorem makes_makeStep (count : Quad) {fraction : Int} (h : fraction = 0 ∨ fraction = s.time.fraction) :
    Makes c s (s.setTime { s.time with count := count, fraction := fraction }).makeStep :=
  .to_tables (.step count h) rfl

/-- Entering a state of the Time Base writes it; the interrupt is bookkeeping (R93). -/
theorem State.enterTimeState_tables (x : TimeState) (s : State) :
    (s.enterTimeState x).tables = (s.setTime { s.time with state := x }).tables := by
  unfold State.enterTimeState
  dsimp only
  split <;> rfl

theorem makes_setTime (v : Quad) : Makes (.setTime v) s (applySetTime v s).1 := by
  unfold applySetTime
  dsimp only
  split
  · exact .to_tables (.startTime ‹_›) (State.enterTimeState_tables _ _)
  · exact makes_makeStep v (.inl rfl)

theorem makes_adjustTime (offset : Quad) : Makes (.adjustTime offset) s (applyAdjustTime offset s).1 := by
  unfold applyAdjustTime
  split
  · exact .refl _ s
  · exact makes_makeStep _ (.inr rfl)

theorem makes_writeDevice (image : DeviceImage) : Makes (.writeDevice image) s (applyWriteDevice image s).1 := by
  unfold applyWriteDevice
  dsimp only
  split
  · exact .to_tables .freeSlots rfl
  · exact .of_tables rfl

theorem makes_collect : Makes .collect s (applyCollect s).1 := by
  unfold applyCollect
  split
  · exact .of_event (.collectHop _)
  · split
    · exact .of_event (.collectRoute (List.find?_some (p := fun i : RouteIndex => s.routes[i].attention) ‹_›))
    · exact .refl _ s

/-- What each request does at its own block. -/
theorem makes_directApply {out : State × Reply} (h : directApply c s = some out) : Makes c s out.1 := by
  cases c with
  | placeHold k map => obtain rfl := Option.some.inj h; exact makes_placeHold k map
  | releaseHold k => obtain rfl := Option.some.inj h; exact makes_releaseHold k
  | writePath p image => obtain rfl := Option.some.inj h; exact makes_guarded makes_writePath
  | retirePath p =>
    obtain rfl := Option.some.inj h
    rw [applyRetirePath_eq]
    exact .to_tables .retirePath (State.trigger_tables _ _)
  | restartEstimate p => obtain rfl := Option.some.inj h; exact makes_restartEstimate p
  | setTime v => obtain rfl := Option.some.inj h; exact makes_setTime v
  | adjustTime offset => obtain rfl := Option.some.inj h; exact makes_adjustTime offset
  | writeTiming image => obtain rfl := Option.some.inj h; exact makes_guarded fun hf => .of_event (.writeTiming hf)
  | writeDevice image => obtain rfl := Option.some.inj h; exact makes_guarded fun _ => makes_writeDevice image
  | readDevice zero => obtain rfl := Option.some.inj h; cases zero <;> exact .of_tables rfl
  | writeClass k image => obtain rfl := Option.some.inj h; exact makes_guarded fun _ => .to_tables .writeClass rfl
  | collect => obtain rfl := Option.some.inj h; exact makes_collect
  | writeRoute i image => obtain rfl := Option.some.inj h; exact makes_guarded fun hf => .of_event (.writeRoute hf)
  | retireRoute i => obtain rfl := Option.some.inj h; exact .of_event .retireRoute
  | run l | suspend l | stop l | readLine l zero | readHolds | writeProfiles entries | readProfiles | readPath p
  | readTime | readClass k | readRoute i | jump target =>
    obtain rfl := Option.some.inj h
    exact .of_tables rfl
  | _ => exact nomatch (show none = some out from h)

/-! ### Hop requests and the turns of the arbiter -/

theorem makes_hopApply {i : Instr} {out : State × Reply} (h : hopApply i s = some out) : Makes c s out.1 := by
  cases i with
  | readHop k => cases h; exact .refl c s
  | writeHop k image =>
    cases h
    cases hf : contentFault (.writeHop k image) s with
    | none => rw [guarded_pass hf]; exact .to_tables (.writeHop k image.config) rfl
    | some cause => rw [guarded_fault hf]; exact .refl c s
  | retireHop k =>
    cases h
    unfold applyRetireHop
    split
    · exact .refl c s
    · exact .to_tables (.retireHop (by simpa using ‹¬ s.hopListed k = true›)) (State.triggerIf_tables ..)
  | clearHopCounts k => cases h; exact .of_event (.clearHopCounts k)
  | _ => exact nomatch (show none = some out from h)

theorem makes_maintenanceTurn : Makes c s s.maintenanceTurn := by
  unfold State.maintenanceTurn
  refine .ite (fun _ => ?_) (fun _ => .refl c s)
  split
  · split
    · rename_i b i _ _ out hout
      have hturn : Makes c s (s.passPointer positionM) := .of_tables rfl
      exact (hturn.trans (makes_hopApply hout)).trans
        (.of_tables (finishApply_onlyChan (out.1.setReply out.2) b out.2).tables)
    · exact .refl c s
  · exact .refl c s

/-- A hop request is its apply at the record, or the channel's turn (R14, log 4). -/
theorem makes_hopRequest {i : Instr} {out : State × Reply} (h : hopApply i s = some out) :
    Makes c s (s.hopRequest i out) := by
  unfold State.hopRequest
  exact .ite (fun _ => makes_maintenanceTurn) fun _ => (makes_hopApply h).trans (.of_tables rfl)

theorem makes_absorb (i : HopIndex) (r : Report) (stamp : Quad) : Makes .lineTurn s (s.absorb i r stamp) := by
  refine .to_tables (.report i r stamp) ?_
  rw [State.absorb_eq, State.triggerIf_tables, State.triggerIf_tables]

theorem makes_dealWithFrame (l : LineIndex) (x : Buffered) : Makes .lineTurn s (s.dealWithFrame l x) := by
  unfold State.dealWithFrame
  dsimp only
  split
  · exact .ite (fun _ => .of_tables rfl) fun _ => .ite (fun _ => .of_tables rfl) fun _ =>
      (makes_absorb _ _ _).from_tables rfl
  · exact .of_tables rfl

theorem makes_lineTurn (l : LineIndex) : Makes .lineTurn s (s.lineTurn l) := by
  unfold State.lineTurn
  split
  · exact (makes_dealWithFrame l _).from_tables rfl
  · exact .refl _ s

/-! ### The tick at a place -/

theorem makes_clearHoldExpiry (i : HopIndex) : Makes c s (s.clearHoldExpiry i) := by
  unfold State.clearHoldExpiry
  split
  · exact .to_tables (.clearHold ‹_›) rfl
  · exact .refl c s

theorem makes_silenceExpiry (i : HopIndex) : Makes c s (s.silenceExpiry i) := by
  unfold State.silenceExpiry
  split
  · exact .to_tables (.silence ‹_›) rfl
  · exact .refl c s

theorem State.holdoverEntry_tables (s : State) : s.holdoverEntry.tables = (s.setTime s.holdoverEntry.time).tables := by
  unfold State.holdoverEntry
  split
  · have h := State.enterTimeState_tables .holdover (s.setTime { s.time with aApp := s.time.aInt })
    rw [h, show (State.enterTimeState _ _).time = _ from congrArg Tables.time h]
    rfl
  · rfl

theorem State.echoTimeout_tables (k : SlotIndex) (s : State) :
    (s.echoTimeout k).tables = (s.withPathsOf (s.echoTimeout k)).tables := by
  unfold State.echoTimeout
  split
  · dsimp only
    split
    · rw [State.triggerIf_tables]
      simp [State.withPathsOf, State.tables]
    · rfl
  · rfl

theorem State.probeTimerExpiry_tables (p : PathIndex) (s : State) :
    (s.probeTimerExpiry p).tables = (s.withPathsOf (s.probeTimerExpiry p)).tables := by
  unfold State.probeTimerExpiry State.queueProbe
  dsimp only
  split
  · split
    · rfl
    · split
      · rfl
      · split <;> rfl
  · rfl

theorem State.readTimeout_onlyChan (s : State) : s.onlyChan s.readTimeout := by
  unfold State.readTimeout
  split
  · split
    · exact endCheck_onlyChan ..
    · exact onlyChan_refl s
  · split
    · exact endCheck_onlyChan ..
    · exact onlyChan_refl s
  · exact onlyChan_refl s

theorem makes_takeTick (x : TickPlace) : Makes c s (s.takeTick x) := by
  cases x with
  | hop i => exact ((Makes.of_event (.advanceHop i)).trans (makes_clearHoldExpiry i)).trans (makes_silenceExpiry i)
  | supervision => exact .to_tables .supervisionTick (State.holdoverEntry_tables _)
  | slot k => exact .to_tables (.slotTick k) (State.echoTimeout_tables k _)
  | path p => exact .to_tables (.pathTick p) (State.probeTimerExpiry_tables p _)
  | channel => exact .of_onlyChan (onlyChan_trans (setChan_onlyChan ..) s.advanceChannel.readTimeout_onlyChan)

/-- A tick that is owed is the tick at its place; one that is not owed changes nothing. -/
theorem makes_tick (x : TickPlace) : Makes c s (s.tick x) := by
  by_cases h : s.ticks.owed x = 0
  · rw [State.tick_of_none h]
    exact .refl c s
  · rw [State.tick_of_owed h]
    exact (makes_takeTick x).trans (.of_tables rfl)

/-! ### The other commands, one lemma for each that has cases -/

theorem makes_transmitGrant : Makes .probeTransmitGrant s s.transmitGrant := by
  unfold State.transmitGrant
  refine .ite (fun _ => .refl _ s) fun _ => ?_
  split
  · unfold State.sendEcho
    exact .ite (fun _ => .to_tables (.sendEcho ‹_›) rfl) fun _ => .to_tables (.sendEcho ‹_›) rfl
  · split
    · split
      · exact .to_tables (.sendProbe ‹_› s.time.count) rfl
      · exact .refl _ s
    · exact .refl _ s

theorem State.matchEcho_tables (k : SlotIndex) (p : PathIndex) (t1 : Quad) (f : ReceivedFrame) (t4 : Quad)
    (s : State) : (s.matchEcho k p t1 f t4).tables = (s.withPathsOf (s.matchEcho k p t1 f t4)).tables := by
  unfold State.matchEcho
  dsimp only
  rw [State.triggerIf_tables]
  simp [State.withPathsOf, State.tables]

theorem makes_takeFrame (bytes : List Byte) (port : Byte) (a : Arrival) :
    Makes (.probeFrameReceived bytes port) s (s.takeFrame bytes port a) := by
  have hcount : ∀ f, Makes (.probeFrameReceived bytes port) s (s.countDevice f) := fun _ => .of_tables rfl
  unfold State.takeFrame
  refine .ite (fun _ => hcount _) fun _ => .ite (fun _ => hcount _) fun _ => .ite (fun _ => hcount _) fun _ =>
    .ite (fun _ => ?probe) fun _ => ?echo
  case probe =>
    unfold State.takeProbe
    exact .ite (fun _ => hcount _) fun _ => .ite (fun _ => hcount _) fun _ => .ite (fun _ => hcount _) fun _ =>
      .ite (fun _ => hcount _) fun h => .of_event (.takeProbe h _)
  case echo =>
    unfold State.takeEcho
    refine .ite (fun _ => hcount _) fun _ => ?_
    split
    · split
      · exact .to_tables (.matchEcho ‹_› _ _) (State.matchEcho_tables ..)
      · exact .refl _ s
    · exact hcount _

/-- A correction, by rate or by a step, reaches the Time Base alone (R82, R83). -/
theorem correction_tables (s : State) (byRate : Prop) [Decidable byRate] (x y : TimeBase) :
    (if byRate then s.setTime x else (s.setTime y).makeStep).tables =
      (s.setTime (if byRate then s.setTime x else (s.setTime y).makeStep).time).tables := by
  split <;> rfl

theorem State.acceptPulse_tables (s : State) : s.acceptPulse.tables = (s.setTime s.acceptPulse.time).tables := by
  have henter : ∀ u : State, u.tables = (s.setTime u.time).tables →
      (u.enterTimeState .tracking).tables = (s.setTime (u.enterTimeState .tracking).time).tables := by
    intro u hu
    rw [State.enterTimeState_tables, show (u.enterTimeState .tracking).time = _ from
      congrArg Tables.time (u.enterTimeState_tables .tracking)]
    exact congrArg (fun w : Tables => { w with time := { u.time with state := .tracking } }) hu
  exact henter _ (correction_tables s _ _ _)

/-- A step signal at the Probe Engine frees every slot and empties the backlog (R118). -/
theorem makes_probeSignal : Makes .stepSignalProbeEngine s
    (s.setProbe { s.probe with slots := Vector.replicate 32 .free, backlog := [] }) := by
  have hslots : Vector.replicate 32 Slot.free = s.probe.slots.map fun _ => .free :=
    table_ext fun i => by rw [table_map]; simp
  rw [hslots]
  exact (Makes.of_event .freeSlots).trans (.of_event .emptyBacklog)

theorem makes_referencePulse (h : exec .referencePulse s = .next t) : Makes .referencePulse s t := by
  change execReferencePulse s = _ at h
  unfold execReferencePulse at h
  split at h
  · cases h
    exact .of_tables rfl
  · split at h <;> cases h
    · exact .of_tables rfl
    · exact .to_tables (.pulse ‹_› rfl) s.acceptPulse_tables

theorem makes_recomputation (h : exec .recomputation s = .next t) : Makes .recomputation s t := by
  change execRecomputation s = _ at h
  unfold execRecomputation at h
  split at h <;> cases h
  · exact .to_tables (.recompute (List.find?_some (p := fun i : RouteIndex => s.routes[i].rerank) ‹_›)) rfl
  · exact .refl _ s

theorem makes_steeringRequestWord {w : Word} (h : exec (.steeringRequestWord w) s = .next t) :
    Makes (.steeringRequestWord w) s t := by
  change execSteeringRequestWord w s = _ at h
  unfold execSteeringRequestWord at h
  split at h
  · rename_i hready
    split at h <;> cases h
    · exact .of_tables rfl
    · exact .to_tables (.requestWord (of_decide_eq_true hready) _) rfl
  · cases h
    exact .refl _ s

/-- A write to a word of the window reaches the channel alone. -/
theorem writeWord_onlyChan (s : State) (offset : Nat) (v : BitVec 32) : s.onlyChan (s.writeWord offset v) := by
  have hstart : s.onlyChan s.startList := by
    unfold State.startList
    dsimp only
    split
    · split
      · exact onlyChan_trans (setChan_onlyChan ..) (issueFetch_onlyChan ..)
      · exact onlyChan_trans (setChan_onlyChan ..) (endCheck_onlyChan ..)
    · exact setChan_onlyChan ..
  have hhalt : s.onlyChan s.haltList := by
    unfold State.haltList
    split
    · exact setChan_onlyChan ..
    · exact onlyChan_refl s
  have hack : s.onlyChan s.ackList := by
    unfold State.ackList
    split
    · exact setChan_onlyChan ..
    · exact onlyChan_refl s
  unfold State.writeWord
  split
  · exact setChan_onlyChan ..
  · exact setChan_onlyChan ..
  · unfold State.control
    split
    · exact hstart
    · exact hhalt
    · exact setChan_onlyChan ..
    · exact hack
    · exact onlyChan_refl s
  · exact onlyChan_refl s

/-- The completion of a block's fetch reaches the channel alone. -/
theorem makes_blockFetchComplete {tag : Nat} {block : Option (BitVec 128)}
    (h : exec (.blockFetchComplete tag block) s = .next t) : Makes c s t := by
  change execBlockFetchComplete tag block s = _ at h
  unfold execBlockFetchComplete at h
  split at h
  · split at h
    · split at h <;> cases h
      · exact .of_onlyChan (endCheck_onlyChan ..)
      · exact .of_onlyChan (takeBlock_onlyChan ..)
    · cases h
      exact .refl _ s
  · cases h
    exact .refl _ s

theorem makes_dataReadComplete {tag : Nat} {data : Option (BitVec 256)}
    (h : exec (.dataReadComplete tag data) s = .next t) : Makes c s t := by
  change execDataReadComplete tag data s = _ at h
  unfold execDataReadComplete at h
  split at h
  · split at h
    · split at h <;> cases h
      · exact .of_onlyChan (endCheck_onlyChan ..)
      · exact .of_onlyChan (takeData_onlyChan ..)
    · cases h
      exact .refl _ s
  · cases h
    exact .refl _ s

theorem skipBlock_onlyChan (s : State) (b : Block) : s.onlyChan (s.skipBlock b) := by
  unfold State.skipBlock
  dsimp only
  split
  · exact onlyChan_trans (setChan_onlyChan ..) (endList_onlyChan ..)
  · split
    · exact onlyChan_trans (setChan_onlyChan ..) (endList_onlyChan ..)
    · exact onlyChan_trans (setChan_onlyChan ..) (issueFetch_onlyChan ..)

theorem makes_skippedBlockFetchComplete {tag : Nat} {block : Option (BitVec 128)}
    (h : exec (.skippedBlockFetchComplete tag block) s = .next t) : Makes c s t := by
  change execSkippedBlockFetchComplete tag block s = _ at h
  unfold execSkippedBlockFetchComplete at h
  split at h
  · split at h
    · split at h <;> cases h
      · exact .of_onlyChan (endCheck_onlyChan ..)
      · exact .of_onlyChan (skipBlock_onlyChan ..)
    · cases h
      exact .refl _ s
  · cases h
    exact .refl _ s

theorem makes_imageWriteIssued (n : Nat) : Makes c s (s.issueImageWrite n) := by
  unfold State.issueImageWrite
  split
  · refine .ite (fun _ => .refl _ s) fun _ => .ite (fun _ => .of_onlyChan (endCheck_onlyChan ..)) fun _ => ?_
    dsimp only
    refine .ite (fun _ => ?_) fun _ => .of_tables rfl
    exact .of_tables (reachCondition_onlyChan (s.emit _) _ _ _).tables
  · exact .refl _ s

/-- What a command can do to the tables is its events. -/
theorem exec_makes (h : exec c s = .next t) : Makes c s t := by
  cases hd : directApply c s with
  | some out =>
    rw [exec_of_directApply hd] at h
    cases h
    exact (makes_directApply hd).trans (.of_tables (settle_tables c out))
  | none =>
    cases c with
    | powerOnReset => cases h; exact .of_event .powerOn
    | warmReset source => cases h; exact .of_event .warm
    | lineTurn =>
      change execLineTurn s = _ at h
      unfold execLineTurn at h
      split at h
      · split at h <;> cases h
        · exact makes_lineTurn _
        · exact .refl _ s
      · cases h
        exact .refl _ s
    | maintenanceTurn => cases h; exact makes_maintenanceTurn
    | readHop i => cases h; exact makes_hopRequest rfl
    | writeHop i image => cases h; exact makes_hopRequest rfl
    | retireHop i => cases h; exact makes_hopRequest rfl
    | clearHopCounts i => cases h; exact makes_hopRequest rfl
    | millisecondTick x => cases h; exact makes_tick x
    | clearHoldExpiry i => cases h; exact .ite (fun _ => makes_tick _) fun _ => .refl _ s
    | silenceExpiry i => cases h; exact .ite (fun _ => makes_tick _) fun _ => .refl _ s
    | holdoverEntry => cases h; exact .ite (fun _ => makes_tick _) fun _ => .refl _ s
    | probeTimerExpiry p => cases h; exact .ite (fun _ => makes_tick _) fun _ => .refl _ s
    | echoTimeout k => cases h; exact .ite (fun _ => makes_tick _) fun _ => .refl _ s
    | busMasterReadTimeout => cases h; exact .ite (fun _ => makes_tick _) fun _ => .refl _ s
    | referencePulse => exact makes_referencePulse h
    | oscillatorPeriod => cases h; exact .to_tables .period rfl
    | stepSignalProbeEngine =>
      change execStepSignalProbeEngine s = _ at h
      unfold execStepSignalProbeEngine at h
      split at h <;> cases h
      · exact makes_probeSignal.trans (.of_tables rfl)
      · exact .refl _ s
    | stepSignalRouteTable =>
      change execStepSignalRouteTable s = _ at h
      unfold execStepSignalRouteTable at h
      split at h <;> cases h
      · exact .to_tables .routeSignal rfl
      · exact .refl _ s
    | probeTransmitGrant => cases h; exact makes_transmitGrant
    | frameTransmissionEnd =>
      change execFrameTransmissionEnd s = _ at h
      unfold execFrameTransmissionEnd at h
      split at h <;> cases h
      · exact .of_tables rfl
      · exact .refl _ s
    | probeFrameReceived bytes port =>
      change execProbeFrameReceived bytes port s = _ at h
      unfold execProbeFrameReceived at h
      split at h <;> cases h
      · exact (makes_takeFrame bytes port _).from_tables rfl
      · exact .refl _ s
    | reRankTrigger w =>
      change execReRankTrigger w s = _ at h
      unfold execReRankTrigger at h
      split at h <;> cases h
      · exact .to_tables .mark rfl
      · exact .refl _ s
    | recomputation => exact makes_recomputation h
    | steeringRequestWord w => exact makes_steeringRequestWord h
    | lookupComputation =>
      change execLookupComputation s = _ at h
      unfold execLookupComputation at h
      split at h <;> cases h
      · exact .of_event (.lookup ‹_› ‹_›)
      · exact .refl _ s
    | answerWordTaken =>
      change execAnswerWordTaken s = _ at h
      unfold execAnswerWordTaken at h
      split at h <;> cases h
      · exact .to_tables (.wordTaken ‹_›) rfl
      · exact .refl _ s
    | start => cases h; exact .of_onlyChan (writeWord_onlyChan s 8 1)
    | halt => cases h; exact .of_onlyChan (writeWord_onlyChan s 8 2)
    | ack => cases h; exact .of_onlyChan (writeWord_onlyChan s 8 4)
    | channelClear => cases h; exact .of_tables rfl
    | windowWrite offset size v =>
      change execWindowWrite offset size v s = _ at h
      unfold execWindowWrite at h
      split at h
      · cases h
        exact .of_onlyChan (writeWord_onlyChan ..)
      · split at h <;> cases h
        · exact .of_onlyChan (onlyChan_trans (writeWord_onlyChan ..) (writeWord_onlyChan ..))
        · exact .refl _ s
    | configurationWrite setting => cases setting <;> cases h <;> exact .of_tables rfl
    | blockFetchComplete tag block => exact makes_blockFetchComplete h
    | dataReadComplete tag data => exact makes_dataReadComplete h
    | skippedBlockFetchComplete tag block => exact makes_skippedBlockFetchComplete h
    | interruptMessage v =>
      change execInterruptMessage v s = _ at h
      unfold execInterruptMessage at h
      split at h <;> cases h
      · exact .of_tables rfl
      · exact .refl _ s
    | imageWriteIssued n => cases h; exact makes_imageWriteIssued n
    | reportFrameBegin l | reportFrameEnd l | reportClockEdge l bit | frameFirstByteArrival =>
      cases h
      exact .of_tables rfl
    | _ => exact nomatch (show some _ = none from hd)

end

/-- What every event of a command keeps, the command keeps. -/
theorem exec_keeps {P : State → Prop} {c : Instr} (hevent : ∀ {s t}, Event c s t → P s → P t) {s t : State} (hs : P s)
    (h : exec c s = .next t) : P t := by
  have hmakes := exec_makes h
  clear h
  induction hmakes with
  | refl => exact hs
  | tail _ he ih => exact hevent he ih

/-- What every event keeps, every step keeps. -/
theorem step_keeps {P : State → Prop} (hevent : ∀ {c s t}, Event c s t → P s → P t) {s t : State} (hs : P s)
    (h : step s = .next t) : P t := by
  rcases step_cases h with rfl | ⟨c, rest, -, hc⟩
  · exact hs
  · have hqueue : P { s with pending := rest } := hevent (c := c) (.same (s := s) rfl) hs
    exact exec_keeps hevent hqueue hc

end Sys2Proof.Machine
end

section
/-! PROOF of O2, O3, O4 and O5. The resets: what each leaves of every block (00_scope.md, "Reset kinds"), and that
after a warm reset no tower chain is usable, so that a route stands on its fallback or is DARK (R142). -/

namespace Sys2Proof.Machine

open Sys2Proof

/-! ### Power-on reset -/

section
variable (s : State)

theorem State.powerOn_line (l : LineIndex) : s.powerOn.lines[l] = Line.initial s.lines[l].frameSelect := by
  simp only [State.powerOn, table_map, Line.afterReset]

theorem State.powerOn_hop (i : HopIndex) : s.powerOn.hops[i] = Hop.vacant 0 := by
  simp only [State.powerOn, State.reset]
  exact Vector.getElem_replicate _

theorem State.powerOn_hold (k : LevelIndex) : s.powerOn.holds[k] = none := by
  simp only [State.powerOn, State.reset]
  exact Vector.getElem_replicate _

theorem State.powerOn_path (p : PathIndex) : s.powerOn.paths[p] = Path.vacant 0 0 := by
  simp only [State.powerOn, State.reset]
  exact Vector.getElem_replicate _

theorem State.powerOn_slot (k : SlotIndex) : s.powerOn.probe.slots[k] = .free := by
  simp only [State.powerOn, State.reset, ProbeEngine.initial]
  exact Vector.getElem_replicate _

theorem State.powerOn_route (i : RouteIndex) : s.powerOn.routes[i] = Route.vacant 0 := by
  simp only [State.powerOn, State.reset]
  exact Vector.getElem_replicate _

end

/-- Settles O2: table by table, record by record. -/
theorem powerOnResetSetsInitialContents : Obligations.PowerOnResetSetsInitialContents := fun s =>
  ⟨s.powerOn, rfl, s.powerOn_line, rfl, s.powerOn_hop, s.powerOn_hold, s.powerOn_path, rfl, rfl,
    Ticks.owed_none, rfl, rfl, s.powerOn_slot, rfl, rfl, rfl, rfl, rfl, rfl, rfl, s.powerOn_route, rfl, rfl, rfl, rfl,
    rfl, rfl, rfl, rfl, rfl⟩

/-! ### Warm reset -/

section
variable (s : State) (source : WarmSource)

@[simp] theorem State.warm_holds : (s.warm source).holds = s.holds := by
  simp only [State.warm, State.warmRoutes, State.warmTimers, State.warmBlocks]

/-- A hop after a warm reset (R43). -/
theorem State.warm_hop (i : HopIndex) : (s.warm source).hops[i] = s.hops[i].warm := by
  simp only [State.warm, State.warmRoutes, State.warmTimers, State.warmBlocks, table_map]

theorem Path.warm_of_vacant {x : Path} (h : x.body = .vacant) : x.warm = x := by
  simp only [Path.warm, Path.nonVacant, h, ne_eq, not_true_eq_false, decide_false, Bool.false_eq_true, if_false]

theorem Path.warm_of_nonVacant {x : Path} (h : x.body ≠ .vacant) : x.warm = { x with loss := 0, lost := false } := by
  simp only [Path.warm, Path.nonVacant, h, ne_eq, not_false_eq_true, decide_true, if_true]

@[simp] theorem Path.warm_body (x : Path) : x.warm.body = x.body := by
  unfold Path.warm
  split <;> rfl

/-- A path when the timers are reloaded, against the hops after their own reset (R74, log 20). -/
theorem State.warm_path_eq (p : PathIndex) :
    (s.warm source).paths[p] =
      if s.paths[p].body = .vacant then s.paths[p]
      else { s.paths[p] with loss := 0, lost := false, timer := (s.warmBlocks source).fullInterval p } := by
  have hpath : (s.warmBlocks source).paths[p] = s.paths[p].warm := by
    simp only [State.warmBlocks, table_map]
  simp only [State.warm, State.warmRoutes, State.warmTimers, tabulate_get]
  rw [hpath]
  unfold Path.nonVacant
  rw [Path.warm_body]
  by_cases hbody : s.paths[p].body = .vacant
  · simp only [hbody, ne_eq, not_true_eq_false, decide_false, Bool.false_eq_true, if_false, if_true]
    exact Path.warm_of_vacant hbody
  · simp only [hbody, ne_eq, not_false_eq_true, decide_true, if_true, if_false, Path.warm_of_nonVacant]

/-- The state that the routes are recomputed against in a warm reset (R142). -/
def State.warmTables (source : WarmSource) (s : State) : State := (s.warmBlocks source).warmTimers

theorem State.warm_route (i : RouteIndex) :
    (s.warm source).routes[i] = (s.warmTables source).warmRoute s.routes[i] := by
  simp only [State.warm, State.warmRoutes, table_map, State.warmTables]
  simp only [State.warmTimers, State.warmBlocks]

end

/-! ### Figures that read the same tables are the same -/

section
variable {s t : State}

theorem minRate_congr (hh : t.hops = s.hops) (hp : t.profiles = s.profiles) : t.minRate = s.minRate := by
  funext body
  cases body <;> simp only [State.minRate, State.rate, hh, hp]

theorem hopUsable_congr (hh : t.hops = s.hops) (hl : t.holds = s.holds) (hc : t.classes = s.classes) :
    t.hopUsable = s.hopUsable := by
  funext c i
  simp only [State.hopUsable, State.held, hh, hl, hc]

theorem pathUsable_congr {p : PathIndex} (c : ClassIndex) (hbody : t.paths[p].body = s.paths[p].body)
    (hlost : t.paths[p].lost = s.paths[p].lost) (hh : t.hops = s.hops) (hl : t.holds = s.holds)
    (hp : t.profiles = s.profiles) (hc : t.classes = s.classes) : t.pathUsable c p = s.pathUsable c p := by
  unfold State.pathUsable Path.nonVacant
  dsimp only
  rw [hbody, hlost, minRate_congr hh hp, hopUsable_congr hh hl hc]

theorem fullInterval_congr {p : PathIndex} (hbody : t.paths[p].body = s.paths[p].body)
    (hlost : t.paths[p].lost = s.paths[p].lost) (hconfig : t.paths[p].config = s.paths[p].config)
    (hh : t.hops = s.hops) (hl : t.holds = s.holds) (hp : t.profiles = s.profiles) (hc : t.classes = s.classes) :
    t.fullInterval p = s.fullInterval p := by
  unfold State.fullInterval
  dsimp only
  rw [pathUsable_congr 0 hbody hlost hh hl hp hc, hconfig, hlost]
  unfold Path.nonVacant
  rw [hbody]

end

/-- Settles O3: the hop table is warm record by record. -/
theorem warmResetSetsHopsDown : Obligations.WarmResetSetsHopsDown := by
  intro source s
  refine ⟨s.warm source, rfl, s.warm_holds source, fun i => ?_⟩
  rw [State.warm_hop]
  unfold Hop.warm Hop.inService
  by_cases h : s.hops[i].state = .vacant
  · simp only [h, ne_eq, not_true_eq_false, decide_false, Bool.false_eq_true, if_false, if_true]
  · simp only [h, ne_eq, not_false_eq_true, decide_true, if_true, if_false, HopConfig.effectiveBadLimit, effective]

section
variable (s : State) (source : WarmSource)

theorem State.warm_line (l : LineIndex) : (s.warm source).lines[l] = Line.initial s.lines[l].frameSelect := by
  simp only [State.warm, State.warmRoutes, State.warmTimers, State.warmBlocks, table_map, Line.afterReset]

/-- Reloading the timers moves nothing that the full interval is read from. -/
theorem State.warm_fullInterval (p : PathIndex) :
    (s.warm source).fullInterval p = (s.warmBlocks source).fullInterval p := by
  have hpath : (s.warmBlocks source).paths[p] = s.paths[p].warm := by
    simp only [State.warmBlocks, table_map]
  have hafter := s.warm_path_eq source p
  by_cases hbody : s.paths[p].body = .vacant
  · rw [if_pos hbody] at hafter
    rw [Path.warm_of_vacant hbody] at hpath
    exact fullInterval_congr (by rw [hafter, hpath]) (by rw [hafter, hpath]) (by rw [hafter, hpath]) rfl rfl rfl rfl
  · rw [if_neg hbody] at hafter
    rw [Path.warm_of_nonVacant hbody] at hpath
    exact fullInterval_congr (by rw [hafter, hpath]) (by rw [hafter, hpath]) (by rw [hafter, hpath]) rfl rfl rfl rfl

theorem Channel.warm_eq (c : Channel) :
    c.warm source =
      ⟨.idle, 0, false, 0, ⟨.none, .none, 0, 0, 0, .none⟩, .idle, false, ⟨false, false, false, false⟩,
        source = .pin && c.busMaster, source = .pin && c.messages,
        (if source = .pin then c.masks else ⟨false, false, false, false⟩), c.nextTag⟩ := by
  cases source <;> rfl

end

/-- Settles O4: block by block; the timers are reloaded for the paths as the reset leaves them. -/
theorem warmResetKeepsConfiguration : Obligations.WarmResetKeepsConfiguration := by
  intro source s
  refine ⟨s.warm source, rfl, s.warm_line source, rfl, rfl, rfl, fun p => ?_, rfl, Ticks.owed_none, rfl, rfl, rfl, rfl,
    rfl, rfl, rfl, rfl, s.chan.warm_eq source, rfl, rfl⟩
  rw [State.warm_path_eq, State.warm_fullInterval]

/-! ### The routes after a warm reset (R142) -/

section
variable {s : State} {source : WarmSource} {p : PathIndex}

theorem State.warmTables_body : (s.warmTables source).paths[p].body = s.paths[p].body := by
  have hpath : (s.warmTables source).paths[p] = (s.warm source).paths[p] := by
    simp only [State.warmTables, State.warm, State.warmRoutes]
  rw [hpath, State.warm_path_eq]
  split <;> rfl

theorem State.warmTables_lost (h : s.paths[p].body ≠ .vacant) : (s.warmTables source).paths[p].lost = false := by
  have hpath : (s.warmTables source).paths[p] = (s.warm source).paths[p] := by
    simp only [State.warmTables, State.warm, State.warmRoutes]
  rw [hpath, State.warm_path_eq, if_neg h]

/-- A listed hop is in service before the reset, so DOWN after it: no tower chain is usable. -/
theorem warm_microwave_unusable (h : s.bodySound s.paths[p].body) (hm : s.paths[p].isMicrowave = true)
    (c : ClassIndex) : (s.warmTables source).pathUsable c p = false := by
  unfold Path.isMicrowave at hm
  split at hm
  · rename_i hops hbody
    rw [hbody] at h
    obtain ⟨hlength, -, -, hin⟩ := h
    obtain ⟨i, hi⟩ := List.exists_mem_of_length_pos hlength
    have hdown : (s.warmTables source).hops[i].state = .down := by
      have hwarm : (s.warmTables source).hops[i] = s.hops[i].warm := by
        simp only [State.warmTables, State.warmTimers, State.warmBlocks, table_map]
      have hservice : s.hops[i].inService = true := decide_eq_true (hin i hi)
      rw [hwarm, Hop.warm, if_pos hservice]
    have hunusable : (s.warmTables source).hopUsable c i = false := by
      simp only [State.hopUsable, hdown, Bool.and_false]
    have hall : (PathBody.hops (s.warmTables source).paths[p].body).all ((s.warmTables source).hopUsable c) =
          false := by
      rw [State.warmTables_body, hbody]
      exact List.all_eq_false.mpr ⟨i, hi, by rw [hunusable]; exact Bool.false_ne_true⟩
    unfold State.pathUsable
    dsimp only
    rw [hall, Bool.and_false]
  · cases hm

/-- A fibre path is usable: its loss is cleared, and its rate is not 0. -/
theorem warm_fibre_usable (h : s.bodySound s.paths[p].body) (hf : s.paths[p].isFibre = true) (c : ClassIndex) :
    (s.warmTables source).pathUsable c p = true := by
  unfold Path.isFibre at hf
  split at hf
  · rename_i latency rate hbody
    rw [hbody] at h
    have hlost : (s.warmTables source).paths[p].lost = false :=
      State.warmTables_lost (by rw [hbody]; exact nofun)
    have hrate : 1 ≤ rate.toNat := Nat.one_le_iff_ne_zero.mpr fun e => h (BitVec.eq_of_toNat_eq e)
    unfold State.pathUsable Path.nonVacant
    dsimp only
    rw [hlost, State.warmTables_body, hbody]
    simp [State.minRate, PathBody.hops, hrate]
  · cases hf

/-- The fallback is the one contender of a route after a warm reset. -/
theorem warm_fastest (hpaths : s.pathsSound) {r : Route} (hr : s.referencesSound r) (n : Nat) :
    fastest ((s.warmTables source).contenders r 0 n) =
      r.fallback.map ((s.warmTables source).contender n true) := by
  obtain ⟨-, -, hcandidates, hfallback⟩ := hr
  have hnone : ∀ q ∈ r.candidates, ¬ (s.warmTables source).pathUsable 0 q = true := fun q hq =>
    Bool.eq_false_iff.mp (warm_microwave_unusable (hpaths q).1 (hcandidates q hq) 0)
  have hempty : r.candidates.filter ((s.warmTables source).pathUsable 0) = [] := List.filter_eq_nil_iff.mpr hnone
  rw [State.contenders_eq, State.candidateContenders, hempty]
  cases hf : r.fallback with
  | none => simp only [State.fallbackContenders, hf]; rfl
  | some p =>
    have husable : (s.warmTables source).pathUsable 0 p = true :=
      warm_fibre_usable (hpaths p).1 (hfallback p hf) 0
    simp only [State.fallbackContenders, hf, husable, hempty, List.isEmpty_nil, Bool.or_true, Bool.and_true, if_true]
    rfl

end

/-- Settles O5: the fallback, where there is one, is all that a route can choose. -/
theorem warmResetLeavesRoutesOnFallbackOrDark : Obligations.WarmResetLeavesRoutesOnFallbackOrDark := by
  intro source s hpaths hroutes
  refine ⟨s.warm source, rfl, fun i => ?_⟩
  rw [State.warm_route]
  unfold State.warmRoute
  by_cases hv : s.routes[i].state = .vacant
  · rw [if_pos hv, if_neg fun h => Route.nonVacant_iff.mp h hv]
  · rw [if_neg hv, if_pos (Route.nonVacant_iff.mpr hv)]
    have hbest := warm_fastest (source := source) hpaths (r := s.routes[i].invalidate) (hroutes i).1
      (max s.routes[i].invalidate.refLength.toNat 1)
    rw [State.recomputed_eq hbest]
    have hfallback : s.routes[i].invalidate.fallback = s.routes[i].fallback := rfl
    rw [hfallback]
    refine ⟨?_, ?_, rfl, rfl, rfl, rfl, rfl, rfl, rfl, rfl⟩
    · cases s.routes[i].fallback <;> rfl
    · cases s.routes[i].fallback <;> rfl

end Sys2Proof.Machine
end

section
/-! PROOF of O55. The attention count (R135): what one write of a record does to the number of flags set, and that
every event keeps the count equal to it. -/

namespace Sys2Proof.Machine

open Sys2Proof

/-! ### Counting the flags of a table -/

/-- A write of one record moves the number of records with a flag by the flag's change. -/
theorem countP_set_table {α : Type} {n : Nat} (p : α → Bool) (v : Vector α n) (i : Fin n) (x : α) :
    (v.set i x).toList.countP p + (p v[i]).toNat = v.toList.countP p + (p x).toNat := by
  have hi : i.val < v.toList.length := by simp
  have hget : v.toList[i.val] = v[i] := by simp
  have hle : p v[i] = true → 0 < v.toList.countP p := fun hp =>
    List.countP_pos_iff.mpr ⟨v[i], hget ▸ List.getElem_mem hi, hp⟩
  rw [Vector.toList_set, List.countP_set hi, hget]
  cases hp : p v[i] with
  | false => cases p x <;> simp
  | true =>
    have hpos := hle hp
    cases p x <;>
      simp only [if_true, Bool.false_eq_true, if_false, Bool.toNat_true, Bool.toNat_false] <;> omega

/-- Tables whose records have the same flags count as many. -/
theorem countP_table_congr {α : Type} {n : Nat} (p : α → Bool) {v w : Vector α n}
    (h : ∀ i : Fin n, p v[i] = p w[i]) : v.toList.countP p = w.toList.countP p := by
  have hmap : v.map p = w.map p := table_ext fun i => by simpa using h i
  have hlist : v.toList.map p = w.toList.map p := by simpa only [Vector.toList_map] using congrArg Vector.toList hmap
  simpa [List.countP_map, Function.comp_def] using congrArg (List.countP id) hlist

/-! ### One write -/

theorem State.countAttention_attentionCount (s : State) (old new : Bool) :
    (s.countAttention old new).attentionCount = s.attentionCount + new.toNat - old.toNat := by
  cases old <;> cases new <;> try rfl
  unfold State.countAttention
  dsimp only
  split <;> rfl

section
variable {s t : State}

/-- The same flags and the same count. -/
theorem State.attentionSound.of_flags (h : s.attentionSound) (hc : t.attentionCount = s.attentionCount)
    (hh : ∀ i : HopIndex, t.hops[i].attention = s.hops[i].attention)
    (hr : ∀ i : RouteIndex, t.routes[i].attention = s.routes[i].attention) : t.attentionSound := by
  unfold State.attentionSound State.flagsSet at h ⊢
  rw [hc, h, countP_table_congr _ hh, countP_table_congr _ hr]

/-- Nothing that the attention flags stand in is changed. -/
theorem State.attentionSound.frame (h : s.attentionSound) (hc : t.attentionCount = s.attentionCount)
    (hh : t.hops = s.hops) (hr : t.routes = s.routes) : t.attentionSound :=
  h.of_flags hc (fun _ => by rw [hh]) fun _ => by rw [hr]

theorem putHop_attentionSound (h : s.attentionSound) (i : HopIndex) (x : Hop) : (s.putHop i x).attentionSound := by
  have hset := countP_set_table (·.attention) s.hops i x
  unfold State.attentionSound State.flagsSet at h ⊢
  rw [State.putHop_attentionCount, State.countAttention_attentionCount, State.putHop_hops, State.putHop_routes, h]
  omega

theorem putRoute_attentionSound (h : s.attentionSound) (i : RouteIndex) (x : Route) :
    (s.putRoute i x).attentionSound := by
  have hset := countP_set_table (·.attention) s.routes i x
  unfold State.attentionSound State.flagsSet at h ⊢
  rw [State.putRoute_attentionCount, State.countAttention_attentionCount, State.putRoute_hops, State.putRoute_routes, h]
  omega

/-- A hop record written with its flag as it was needs no accounting. -/
theorem setHop_attentionSound (h : s.attentionSound) (i : HopIndex) {x : Hop}
    (hx : x.attention = s.hops[i].attention) : (s.setHop i x).attentionSound :=
  State.putHop_same hx ▸ putHop_attentionSound h i x

theorem setRoute_attentionSound (h : s.attentionSound) (i : RouteIndex) {x : Route}
    (hx : x.attention = s.routes[i].attention) : (s.setRoute i x).attentionSound :=
  State.putRoute_same hx ▸ putRoute_attentionSound h i x

/-! ### The events that write records otherwise -/

theorem Hop.advance_attention (x : Hop) (held running : Bool) : (x.advance held running).attention = x.attention := by
  unfold Hop.advance
  split <;> rfl

theorem changeHolds_attentionSound (h : s.attentionSound) (holds : Vector (Option (BitVec 64)) 8) :
    (s.changeHolds holds).attentionSound := by
  refine h.of_flags (s.changeHolds_attentionCount holds) (fun i => ?_) fun _ => by rw [State.changeHolds_routes]
  rw [State.changeHolds_hop]
  split <;> rfl

/-- A change of every route that leaves the attention flags. -/
theorem mapRoutes_attentionSound (h : s.attentionSound) {f : Route → Route}
    (hf : ∀ r, (f r).attention = r.attention) : (s.mapRoutes f).attentionSound :=
  h.of_flags (s.mapRoutes_attentionCount f) (fun _ => by rw [State.mapRoutes_hops])
    fun i => by rw [State.mapRoutes_routes, table_map, hf]

theorem Route.markedBy_attention (m : Route → Bool) (r : Route) : (r.markedBy m).attention = r.attention := by
  unfold Route.markedBy
  split <;> rfl

/-- Dropping a path from a route writes the route, or nothing. -/
theorem dropFromRoute_attentionSound (h : s.attentionSound) (p : PathIndex) (i : RouteIndex) :
    (s.dropFromRoute p i).attentionSound := by
  unfold State.dropFromRoute
  dsimp only
  split
  · exact putRoute_attentionSound h i _
  · exact h

theorem dropFromRoutes_attentionSound (h : s.attentionSound) (p : PathIndex) (l : List RouteIndex) :
    (s.dropFromRoutes p l).attentionSound := by
  induction l generalizing s with
  | nil => exact h
  | cons i l ih => exact ih (dropFromRoute_attentionSound h p i)

/-- The answer of a lookup leaves the attention flag of its route. -/
theorem State.compute_attention (s : State) (q : Lookup) : (s.compute q).2.attention = s.routes[q.site].attention := by
  unfold State.compute
  dsimp only
  split
  · rfl
  · split <;> rfl

end

/-- A warm reset counts the flags it leaves (R142). -/
theorem warm_attentionSound (s : State) (source : WarmSource) : (s.warm source).attentionSound := by
  simp only [State.attentionSound, State.warm, State.warmRoutes, State.flagsSet]

theorem powerOn_attentionSound (s : State) : s.powerOn.attentionSound := by
  simp [State.attentionSound, State.powerOn, State.flagsSet, State.reset, Hop.vacant, Route.vacant]

theorem event_keeps_attentionSound {c : Instr} {s t : State} (he : Event c s t) (h : s.attentionSound) :
    t.attentionSound := by
  cases he with
  | same ht =>
    exact h.frame (congrArg Tables.attentionCount ht) (congrArg Tables.hops ht) (congrArg Tables.routes ht)
  | powerOn => exact powerOn_attentionSound s
  | warm => exact warm_attentionSound s _
  | report i | clearHold | silence | writeHop i | retireHop | clearHopCounts i | collectHop i =>
    exact putHop_attentionSound h _ _
  | advanceHop i => exact setHop_attentionSound h i (Hop.advance_attention ..)
  | placeHold | releaseHold => exact changeHolds_attentionSound h _
  | @retirePath p =>
    exact dropFromRoutes_attentionSound (h.frame (t := s.emptyPath p) rfl rfl rfl) p _
  | recompute | collectRoute | writeRoute | retireRoute => exact putRoute_attentionSound h _ _
  | mark => exact mapRoutes_attentionSound h (Route.markedBy_attention _)
  | routeSignal | writeClass => exact mapRoutes_attentionSound h fun _ => rfl
  | lookup => exact setRoute_attentionSound h _ (s.compute_attention _)
  | _ => exact h.frame (by simp) (by simp) (by simp)

/-- Settles O55: by the events a step makes. -/
theorem stepKeepsAttentionCount : Obligations.StepKeepsAttentionCount :=
  fun _ _ hs h => step_keeps event_keeps_attentionSound hs h

end Sys2Proof.Machine
end

section
/-! PROOF of O56. The soundness of a hop record as one table over its state (R21, R26, R27, R31, R48), what each
change of a record keeps of it, and the nesting of the hold levels (R44). -/

namespace Sys2Proof.Machine

open Sys2Proof

/-! ### One hop record -/

/-- A hop record is sound: its bad counter and its timers are. -/
def Hop.Sound (x : Hop) (held : Bool) : Prop := x.counterSound ∧ x.timersSound held

/-- What each state asks of the bad counter, the clear-hold timer and the silence timer. -/
theorem Hop.sound_iff (x : Hop) (held : Bool) :
    x.Sound held ↔
      match x.state with
      | .vacant => x.bad = 0 ∧ x.clearHold = none ∧ x.silence = 0
      | .clear => x.bad < x.config.effectiveBadLimit ∧ x.clearHold = none ∧ (held = true → x.silence = 0)
      | .fading => x.bad < x.config.effectiveBadLimit ∧ (held = true → x.clearHold = none ∧ x.silence = 0)
      | .faded => x.bad = x.config.effectiveBadLimit ∧ (held = true → x.clearHold = none ∧ x.silence = 0)
      | .down => x.bad = x.config.effectiveBadLimit ∧ x.clearHold = none ∧ x.silence = 0 := by
  unfold Hop.Sound Hop.counterSound Hop.timersSound
  cases hs : x.state <;> cases held <;> cases x.clearHold <;> simp

theorem HopConfig.effectiveBadLimit_pos (c : HopConfig) : 0 < c.effectiveBadLimit := one_le_effective _

section
variable {x : Hop} {held : Bool}

theorem Hop.Sound.copyReport (h : x.Sound held) (r : Report) (stamp : Quad) : (x.copyReport r stamp).Sound held := by
  rw [Hop.sound_iff] at h ⊢
  cases hs : x.state <;> simp_all [Hop.copyReport]

/-- Entry to DOWN leaves a sound record, whatever it was. -/
theorem Hop.enterDown_sound (x : Hop) (held : Bool) : x.enterDown.Sound held := by
  rw [Hop.sound_iff]
  exact ⟨rfl, rfl, rfl⟩

theorem Hop.vacant_sound (generation : Half) (held : Bool) : (Hop.vacant generation).Sound held := by
  rw [Hop.sound_iff]
  exact ⟨rfl, rfl, rfl⟩

/-- A BAD report below the limit counts towards it, and at the limit the hop is FADED (R21, R22). -/
theorem Hop.countBad_sound (hbad : x.bad < x.config.effectiveBadLimit) (hs : x.state = .clear ∨ x.state = .fading)
    (hsilence : held = true → x.silence = 0) : x.countBad.Sound held := by
  unfold Hop.countBad
  split <;> rw [Hop.sound_iff]
  · exact ⟨‹_›, fun h => ⟨rfl, hsilence h⟩⟩
  · rcases hs with hs | hs <;> simp only [hs]
    · exact ⟨by omega, trivial, hsilence⟩
    · exact ⟨by omega, fun h => ⟨trivial, hsilence h⟩⟩

/-- A report that is judged finds no held hop. -/
theorem Hop.Sound.judge (h : x.Sound false) (r : Report) : (x.judge r).Sound false := by
  have hpos := x.config.effectiveBadLimit_pos
  unfold Hop.judge
  split
  · split
    · exact h
    · exact x.enterDown_sound false
  · have h' := (x.sound_iff false).mp h
    cases hs : x.state with
    | vacant => simpa only [Hop.judgeClass, hs] using h
    | clear =>
      simp only [hs] at h'
      cases classify x.config r with
      | bad =>
        simp only [Hop.judgeClass, hs]
        exact Hop.countBad_sound h'.1 (.inl hs) nofun
      | good => simp_all [Hop.judgeClass, Hop.sound_iff]
      | marginal => simp_all [Hop.judgeClass, Hop.sound_iff]
    | fading =>
      simp only [hs] at h'
      cases classify x.config r with
      | bad =>
        simp only [Hop.judgeClass, hs]
        exact Hop.countBad_sound h'.1 (.inr hs) nofun
      | good => simp_all [Hop.judgeClass, Hop.startClearHold, Hop.sound_iff]
      | marginal => simp_all [Hop.judgeClass, Hop.sound_iff]
    | faded => cases classify x.config r <;> simp_all [Hop.judgeClass, Hop.startClearHold, Hop.sound_iff]
    | down => cases classify x.config r <;> simp_all [Hop.judgeClass, Hop.sound_iff]

/-- A tick starts no timer, and moves none in a state or on a hop where it is 0. -/
theorem Hop.Sound.advance (h : x.Sound held) (running : Bool) : (x.advance held running).Sound held := by
  rw [Hop.sound_iff] at h
  unfold Hop.advance
  split
  · exact (x.sound_iff held).mpr h
  · rw [Hop.sound_iff]
    cases hs : x.state <;> simp_all [Hop.silenceCounts]

/-- Clear-hold expiry: the counter is below the limit in FADING, and becomes 0 from FADED (R26). -/
theorem Hop.Sound.expireClearHold (h : x.Sound held) (hdue : x.clearHoldDue held = true) :
    x.expireClearHold.Sound held := by
  have hpos := x.config.effectiveBadLimit_pos
  have hfree : held = false ∧ (x.state = .fading ∨ x.state = .faded) := by
    simp only [Hop.clearHoldDue, Bool.and_eq_true, Bool.not_eq_true', decide_eq_true_eq] at hdue
    exact hdue.1
  obtain ⟨rfl, hs⟩ := hfree
  rw [Hop.sound_iff] at h ⊢
  rcases hs with hs | hs <;> simp_all [Hop.expireClearHold]

/-- WRITE-HOP sets the counter as the kept state asks (R38). -/
theorem Hop.Sound.rewrite (h : x.Sound held) (hx : x.inService = true) (c : HopConfig) : (x.rewrite c).Sound held := by
  have hpos := c.effectiveBadLimit_pos
  rw [Hop.sound_iff] at h ⊢
  simp only [Hop.rewrite]
  cases hs : x.state <;> simp_all [Hop.inService]

theorem Hop.enterService_sound (x : Hop) (held : Bool) (c : HopConfig) : (x.enterService c).Sound held := by
  rw [Hop.sound_iff]
  exact ⟨rfl, rfl, rfl⟩

/-- A hop whose held status changes has both timers at 0, so it is sound under the new status. -/
theorem Hop.Sound.heldChange (h : x.Sound held) (held' : Bool) : x.heldChange.Sound held' := by
  rw [Hop.sound_iff] at h ⊢
  cases hs : x.state <;> simp_all [Hop.heldChange]

/-- A VACANT record is sound under either status. -/
theorem Hop.Sound.of_vacant (h : x.Sound held) (hx : x.state = .vacant) (held' : Bool) : x.Sound held' := by
  rw [Hop.sound_iff] at h ⊢
  simpa only [hx] using h

theorem Hop.Sound.warm (h : x.Sound held) : x.warm.Sound held := by
  unfold Hop.warm
  split
  · rw [Hop.sound_iff]
    exact ⟨rfl, rfl, rfl⟩
  · exact h

end

/-! ### The hop table -/

section
variable {s t : State}

theorem State.hopsSound_iff : s.hopsSound ↔ ∀ i : HopIndex, s.hops[i].Sound (s.held i) := Iff.rfl

theorem State.hopsSound.frame (h : s.hopsSound) (hh : t.hops = s.hops) (hl : t.holds = s.holds) : t.hopsSound := by
  rw [State.hopsSound_iff] at h ⊢
  intro i
  have hheld : t.held i = s.held i := by unfold State.held; rw [hl]
  rw [hh, hheld]
  exact h i

/-- A hop table with one sound record written. -/
theorem State.hopsSound.set (h : s.hopsSound) {i : HopIndex} {x : Hop} (hx : x.Sound (s.held i))
    (hh : t.hops = s.hops.set i x) (hl : t.holds = s.holds) : t.hopsSound := by
  rw [State.hopsSound_iff] at h ⊢
  intro j
  have hheld : t.held j = s.held j := by unfold State.held; rw [hl]
  rw [hh, hheld, table_set]
  split
  · subst j; exact hx
  · exact h j

theorem State.hopsSound.putHop (h : s.hopsSound) {i : HopIndex} {x : Hop} (hx : x.Sound (s.held i)) :
    (s.putHop i x).hopsSound :=
  h.set hx (State.putHop_hops i x s) (State.putHop_holds i x s)

theorem reportedHop_sound (h : s.hopsSound) (i : HopIndex) (r : Report) (stamp : Quad) :
    (s.reportedHop i r stamp).Sound (s.held i) := by
  have hi : s.hops[i].Sound (s.held i) := h i
  unfold State.reportedHop
  split
  · exact hi.copyReport r stamp
  · rename_i hfree
    rw [Bool.eq_false_iff.mpr hfree] at hi ⊢
    exact (hi.copyReport r stamp).judge r

/-- Under other levels a hop is sound: where its held status changes both timers stop at 0 (R48, R50). -/
theorem changeHolds_hopsSound (h : s.hopsSound) (holds : Vector (Option (BitVec 64)) 8) :
    (s.changeHolds holds).hopsSound := by
  rw [State.hopsSound_iff]
  intro i
  have hi : s.hops[i].Sound (s.held i) := h i
  have hheld : (s.changeHolds holds).held i = heldBy holds i := by unfold State.held; rw [State.changeHolds_holds]
  rw [State.changeHolds_hop, hheld]
  unfold State.heldChanges
  split
  · exact hi.heldChange _
  · rename_i hkept
    by_cases hv : s.hops[i].state = .vacant
    · exact hi.of_vacant hv _
    · have hin : s.hops[i].inService = true := decide_eq_true hv
      have hsame : s.held i = heldBy holds i := by simpa only [hin, Bool.true_and, bne_iff_ne, not_not] using hkept
      exact hsame ▸ hi

/-! ### The hold levels (R44) -/

theorem State.holdsSound.frame (h : s.holdsSound) (hl : t.holds = s.holds) : t.holdsSound := by
  unfold State.holdsSound
  rw [hl]
  exact h

/-- A level placed on the placed ones: none above it is placed, and each below it is. -/
theorem placeHold_holdsSound (h : s.holdsSound) {k : LevelIndex} (map : BitVec 64)
    (hfree : s.holds[k].isSome = false) (hbelow : s.belowFree k = false)
    (hl : t.holds = s.holds.set k (some map)) : t.holdsSound := by
  intro i j hij hj
  rw [Fin.le_def] at hij
  rw [hl, table_set] at hj ⊢
  by_cases hik : i = k
  · simp [hik]
  rw [if_neg hik]
  by_cases hjk : j = k
  · subst hjk
    have hne : i.val ≠ j.val := fun e => hik (Fin.ext e)
    have hpos : 0 < j.val := by omega
    have hlast : s.holds[(⟨j.val - 1, by omega⟩ : LevelIndex)].isSome = true := by
      simpa [State.belowFree, hpos] using hbelow
    exact h i ⟨j.val - 1, by omega⟩ (Fin.le_def.mpr (Nat.le_sub_one_of_lt (by omega))) hlast
  · rw [if_neg hjk] at hj
    exact h i j hij hj

theorem freeFrom_get (k j : LevelIndex) (holds : Vector (Option (BitVec 64)) 8) :
    (freeFrom k holds)[j] = if k.val ≤ j.val then none else holds[j] := tabulate_get _ j

/-- With a level and all above it freed, the placed ones are those below it. -/
theorem releaseHold_holdsSound (h : s.holdsSound) {k : LevelIndex} (hl : t.holds = freeFrom k s.holds) :
    t.holdsSound := by
  intro i j hij hj
  rw [hl, freeFrom_get] at hj ⊢
  split at hj
  · exact absurd hj Bool.false_ne_true
  · rw [if_neg fun hki => ‹¬ k.val ≤ j.val› (hki.trans hij)]
    exact h i j hij hj

end

/-! ### The resets -/

theorem powerOn_hopsAndHolds (s : State) : s.powerOn.hopsSound ∧ s.powerOn.holdsSound := by
  constructor
  · intro i
    rw [State.powerOn_hop]
    exact Hop.vacant_sound 0 _
  · intro j k _ hk
    rw [State.powerOn_hold] at hk
    exact absurd hk Bool.false_ne_true

theorem warm_hopsAndHolds {s : State} (h : s.hopsSound ∧ s.holdsSound) (source : WarmSource) :
    (s.warm source).hopsSound ∧ (s.warm source).holdsSound := by
  refine ⟨State.hopsSound_iff.mpr fun i => ?_, h.2.frame (State.warm_holds s source)⟩
  have hheld : (s.warm source).held i = s.held i := by unfold State.held; rw [State.warm_holds]
  rw [State.warm_hop, hheld]
  exact Hop.Sound.warm (h.1 i)

/-! ### The events -/

theorem event_keeps_hopsAndHolds {c : Instr} {s t : State} (he : Event c s t) (h : s.hopsSound ∧ s.holdsSound) :
    t.hopsSound ∧ t.holdsSound := by
  obtain ⟨hhops, hholds⟩ := h
  have hput : ∀ {i : HopIndex} {x : Hop}, x.Sound (s.held i) → (s.putHop i x).hopsSound ∧ (s.putHop i x).holdsSound :=
    fun hx => ⟨hhops.putHop hx, hholds.frame (State.putHop_holds ..)⟩
  have hframe : ∀ {u : State}, u.hops = s.hops → u.holds = s.holds → u.hopsSound ∧ u.holdsSound :=
    fun hh hl => ⟨hhops.frame hh hl, hholds.frame hl⟩
  cases he with
  | same ht => exact hframe (congrArg Tables.hops ht) (congrArg Tables.holds ht)
  | powerOn => exact powerOn_hopsAndHolds s
  | warm => exact warm_hopsAndHolds ⟨hhops, hholds⟩ _
  | report i r stamp => exact hput (reportedHop_sound hhops i r stamp)
  | advanceHop i =>
    exact ⟨hhops.set (Hop.Sound.advance (hhops i) _) (State.setHop_hops ..) (State.setHop_holds ..),
      hholds.frame (State.setHop_holds ..)⟩
  | clearHold hdue => exact hput (Hop.Sound.expireClearHold (hhops _) hdue)
  | silence => exact hput (Hop.enterDown_sound _ _)
  | writeHop i x =>
    refine hput ?_
    split
    · exact Hop.Sound.rewrite (hhops i) ‹_› x
    · exact Hop.enterService_sound _ _ x
  | retireHop => exact hput (Hop.vacant_sound _ _)
  | clearHopCounts i | collectHop i => exact hput (hhops i)
  | placeHold hfree hbelow =>
    exact ⟨changeHolds_hopsSound hhops _, placeHold_holdsSound hholds _ hfree hbelow (State.changeHolds_holds ..)⟩
  | releaseHold => exact ⟨changeHolds_hopsSound hhops _, releaseHold_holdsSound hholds (State.changeHolds_holds ..)⟩
  | lookup => exact hframe rfl rfl
  | _ => exact hframe (by simp) (by simp)

/-- Settles O56: by the events a step makes. -/
theorem stepKeepsHopsAndHoldsSound : Obligations.StepKeepsHopsAndHoldsSound :=
  fun _ _ hs h => step_keeps event_keeps_hopsAndHolds hs h

end Sys2Proof.Machine
end

section
/-! PROOF of O58. The Time Base within its ranges (R75 to R80, R84, R89) and the queues within their bounds (R107,
R145, R146): what each change of the Time Base keeps of them. -/

namespace Sys2Proof.Machine

open Sys2Proof

/-! ### The Time Base after each of its events -/

/-- Entering a state writes it (R93). -/
theorem State.enterTimeState_time (x : TimeState) (s : State) :
    (s.enterTimeState x).time = { s.time with state := x } :=
  congrArg Tables.time (s.enterTimeState_tables x)

/-- An accepted pulse of the error `e`, which stays a name here (R80 to R84). -/
def State.correctBy (s : State) (e : Int) : State :=
  let t := { s.time with supervision := some 0, lastError := e }
  let corrected :=
    if e.natAbs ≤ t.effectiveStepLimit then s.setTime (t.correctRate e)
    else (s.setTime (t.correctStep e)).makeStep
  corrected.enterTimeState .tracking

theorem State.acceptPulse_eq_correctBy (s : State) : s.acceptPulse = s.correctBy (pulseError s.time.count) := rfl

/-- The Time Base after an accepted pulse: corrected by rate or by a step, and TRACKING. -/
theorem State.correctBy_time (s : State) (e : Int) :
    (s.correctBy e).time =
      if e.natAbs ≤ s.time.effectiveStepLimit then
        { ({ s.time with supervision := some 0, lastError := e } : TimeBase).correctRate e with state := .tracking }
      else
        { ({ s.time with supervision := some 0, lastError := e } : TimeBase).correctStep e with
          state := .tracking, epoch := s.time.epoch + 1 } := by
  have hlimit : ({ s.time with supervision := some 0, lastError := e } : TimeBase).effectiveStepLimit =
      s.time.effectiveStepLimit := rfl
  unfold State.correctBy
  rw [State.enterTimeState_time, hlimit]
  split <;> rfl

/-- The Time Base after the tick that may enter HOLDOVER (R84). -/
theorem State.holdoverEntry_time (s : State) :
    s.holdoverEntry.time =
      if s.time.holdoverDue then { s.time with aApp := s.time.aInt, state := .holdover } else s.time := by
  unfold State.holdoverEntry
  split
  · exact State.enterTimeState_time _ _
  · rfl

@[simp] theorem State.warm_time (s : State) (source : WarmSource) : (s.warm source).time = s.time.warm := by
  simp only [State.warm, State.warmRoutes, State.warmTimers, State.warmBlocks]

@[simp] theorem State.warm_probe (s : State) (source : WarmSource) :
    (s.warm source).probe = s.probe.warm (s.time.epoch + 1) := by
  simp only [State.warm, State.warmRoutes, State.warmTimers, State.warmBlocks]

@[simp] theorem State.warm_steering (s : State) (source : WarmSource) : (s.warm source).steering = .initial := by
  simp only [State.warm, State.warmRoutes, State.warmTimers, State.warmBlocks]

@[simp] theorem State.powerOn_time (s : State) : s.powerOn.time = .initial := by
  simp only [State.powerOn, State.reset]

@[simp] theorem State.powerOn_probe (s : State) : s.powerOn.probe = .initial := by
  simp only [State.powerOn, State.reset]

@[simp] theorem State.powerOn_steering (s : State) : s.powerOn.steering = .initial := by
  simp only [State.powerOn, State.reset]

@[simp] theorem State.advanceHop_time (i : HopIndex) (s : State) : (s.advanceHop i).time = s.time := by
  simp only [State.advanceHop, State.setHop_time]

@[simp] theorem State.advanceHop_probe (i : HopIndex) (s : State) : (s.advanceHop i).probe = s.probe := by
  simp only [State.advanceHop, State.setHop_probe]

@[simp] theorem State.advanceHop_steering (i : HopIndex) (s : State) : (s.advanceHop i).steering = s.steering := by
  simp only [State.advanceHop, State.setHop_steering]

@[simp] theorem State.freeSlots_backlog (v : Slot → Bool) (s : State) :
    (s.freeSlots v).probe.backlog = s.probe.backlog := by
  simp only [State.freeSlots, State.setProbe_probe]

@[simp] theorem State.emptyPath_backlog (p : PathIndex) (s : State) :
    (s.emptyPath p).probe.backlog = s.probe.backlog := by
  simp only [State.emptyPath, State.freeSlots_backlog, State.setPath_probe]

@[simp] theorem State.setSlot_backlog (k : SlotIndex) (x : Slot) (s : State) :
    (s.setSlot k x).probe.backlog = s.probe.backlog := by
  simp only [State.setSlot, State.setProbe_probe]

/-! ### The ranges of the Time Base -/

theorem attosPerNano_pos : (0 : Int) < Config.attosPerNano := by decide

theorem zero_adjustment_bounds : -Config.adjustmentLimit ≤ 0 ∧ (0 : Int) ≤ Config.adjustmentLimit := by decide

theorem periodsPerTick_pos : 0 < Config.periodsPerTick := by decide

theorem TimeBase.initial_sound : TimeBase.initial.sound :=
  ⟨le_rfl, attosPerNano_pos, zero_adjustment_bounds.1, zero_adjustment_bounds.2, zero_adjustment_bounds.1,
    zero_adjustment_bounds.2, by decide, periodsPerTick_pos, rfl⟩

section
variable {t : TimeBase}

theorem clampAdjustment_bounds (a : Int) :
    -Config.adjustmentLimit ≤ clampAdjustment a ∧ clampAdjustment a ≤ Config.adjustmentLimit :=
  clamp_bounds (by decide) a

/-- One carry or one borrow brings the fraction back into its range, since A_app is within its bound (R76). -/
theorem TimeBase.sound.period (h : t.sound) : t.period.sound := by
  obtain ⟨hlow, hhigh, hint, hint', happ, happ', hlimit, hperiods, hsup⟩ := h
  have hnano : Config.attosPerNano = 1000000000 := rfl
  have hbound : Config.adjustmentLimit = 500000 := rfl
  have hfraction : 0 ≤ (advanceTime t.count t.fraction t.aApp).2 ∧
      (advanceTime t.count t.fraction t.aApp).2 < Config.attosPerNano := by
    unfold advanceTime
    dsimp only
    split
    · dsimp only; omega
    · split
      · dsimp only; omega
      · dsimp only; omega
  refine ⟨hfraction.1, hfraction.2, hint, hint', happ, happ', hlimit, ?_, hsup⟩
  unfold TimeBase.period TimeBase.tickFalls
  dsimp only
  split
  · decide
  · simpa using ‹¬ decide (Config.periodsPerTick ≤ t.periods + 1) = true›

/-- An accepted pulse leaves clamped adjustments and the supervision timer at 0 in TRACKING. -/
theorem correctBy_sound {s : State} (h : s.time.sound) (e : Int) : (s.correctBy e).time.sound := by
  obtain ⟨hlow, hhigh, hint, hint', -, -, hlimit, hperiods, -⟩ := h
  have hsup : ∃ v, some 0 = some v ∧ v < Config.supervisionLimit := ⟨0, rfl, by decide⟩
  rw [State.correctBy_time]
  split
  · exact ⟨hlow, hhigh, (clampAdjustment_bounds _).1, (clampAdjustment_bounds _).2, (clampAdjustment_bounds _).1,
      (clampAdjustment_bounds _).2, hlimit, hperiods, hsup⟩
  · exact ⟨hlow, hhigh, hint, hint', hint, hint', hlimit, hperiods, hsup⟩

theorem acceptPulse_sound {s : State} (h : s.time.sound) : s.acceptPulse.time.sound :=
  s.acceptPulse_eq_correctBy ▸ correctBy_sound h _

/-- The tick at the supervision timer: below 1,500 it stays in TRACKING, and at 1,500 HOLDOVER is entered (R84). -/
theorem supervisionTick_sound {s : State} (h : s.time.sound) : (s.takeTick .supervision).time.sound := by
  obtain ⟨hlow, hhigh, hint, hint', happ, happ', hlimit, hperiods, hsup⟩ := h
  change s.advanceSupervision.holdoverEntry.time.sound
  rw [State.holdoverEntry_time]
  split
  · rename_i hdue
    have hreached : s.advanceSupervision.time.supervision = some Config.supervisionLimit := by
      simp only [TimeBase.holdoverDue, Bool.and_eq_true, decide_eq_true_eq] at hdue
      exact hdue.2
    exact ⟨hlow, hhigh, hint, hint', hint, hint', hlimit, hperiods, hreached⟩
  · rename_i hdue
    refine ⟨hlow, hhigh, hint, hint', happ, happ', hlimit, hperiods, ?_⟩
    simp only [TimeBase.holdoverDue, Bool.and_eq_true, decide_eq_true_eq] at hdue
    simp only [State.advanceSupervision, State.setTime_time] at hdue
    unfold TimeBase.supervisionSound at hsup ⊢
    simp only [State.advanceSupervision, State.setTime_time]
    cases hs : s.time.state with
    | unset | set =>
      simp only [hs] at hsup ⊢
      rw [hsup]
      rfl
    | tracking =>
      simp only [hs, true_and] at hsup hdue ⊢
      obtain ⟨v, hv, hlt⟩ := hsup
      rw [hv] at hdue ⊢
      have hne : satInc Config.supervisionLimit v ≠ Config.supervisionLimit := fun e => hdue (congrArg some e)
      exact ⟨_, rfl, lt_of_le_of_ne (satInc_le _ _) hne⟩
    | holdover =>
      simp only [hs] at hsup ⊢
      rw [hsup]
      rfl

/-- WRITE-TIMING stores a step limit that passed its check (R89). -/
theorem TimingImage.stepLimit_le {i : TimingImage} (h : i.check = none) :
    (i.stepLimit.setWidth 20).toNat ≤ Config.stepLimitMax := by
  have hchecked : i.stepLimit.toNat ≤ Config.stepLimitMax := by
    by_contra hlt
    simp [TimingImage.check, firstFailure, not_le.mp hlt] at h
  exact (BitVec.toNat_setWidth 20 i.stepLimit ▸ Nat.mod_le _ _).trans hchecked

end

/-! ### The queues -/

section
variable {s t : State}

theorem State.queuesSound.frame (h : s.queuesSound) (hb : t.probe.backlog = s.probe.backlog)
    (hq : t.steering.queue = s.steering.queue) (ha : t.steering.answer = s.steering.answer) : t.queuesSound := by
  unfold State.queuesSound
  rw [hb, hq, ha]
  exact h

end

/-! ### The events -/

theorem event_keeps_time {c : Instr} {s t : State} (he : Event c s t) (h : s.time.sound) : t.time.sound := by
  cases he with
  | same ht => exact (show t.time = s.time from congrArg Tables.time ht) ▸ h
  | powerOn => exact s.powerOn_time ▸ TimeBase.initial_sound
  | warm =>
    obtain ⟨-, -, hint, hint', -, -, hlimit, -, -⟩ := h
    rw [State.warm_time]
    exact ⟨le_rfl, attosPerNano_pos, hint, hint', hint, hint', hlimit, periodsPerTick_pos, rfl⟩
  | pulse _ hx =>
    rw [State.setTime_time, hx]
    exact acceptPulse_sound h
  | supervisionTick =>
    rw [State.setTime_time]
    exact supervisionTick_sound h
  | period =>
    rw [State.setTime_time]
    exact h.period
  | startTime hs =>
    obtain ⟨-, -, hint, hint', happ, happ', hlimit, hperiods, hsup⟩ := h
    unfold TimeBase.supervisionSound at hsup
    simp only [hs] at hsup
    exact ⟨le_rfl, attosPerNano_pos, hint, hint', happ, happ', hlimit, hperiods, hsup⟩
  | step count hf =>
    obtain ⟨hlow, hhigh, hrest⟩ := h
    rcases hf with rfl | rfl
    · exact ⟨le_rfl, attosPerNano_pos, hrest⟩
    · exact ⟨hlow, hhigh, hrest⟩
  | writeTiming hi =>
    obtain ⟨hlow, hhigh, hint, hint', happ, happ', -, hperiods, hsup⟩ := h
    exact ⟨hlow, hhigh, hint, hint', happ, happ', TimingImage.stepLimit_le hi, hperiods, hsup⟩
  | lookup => exact h
  | _ => simpa using h

theorem event_keeps_queues {c : Instr} {s t : State} (he : Event c s t) (h : s.queuesSound) : t.queuesSound := by
  cases he with
  | same ht => exact h.frame (congrArg Tables.backlog ht) (congrArg Tables.queue ht) (congrArg Tables.answer ht)
  | powerOn =>
    unfold State.queuesSound
    rw [State.powerOn_probe, State.powerOn_steering]
    exact ⟨Nat.zero_le _, Nat.zero_le _, nofun⟩
  | warm =>
    unfold State.queuesSound
    rw [State.warm_probe, State.warm_steering]
    exact ⟨Nat.zero_le _, Nat.zero_le _, nofun⟩
  | sendEcho hb =>
    obtain ⟨hbacklog, hqueue, hanswer⟩ := h
    rw [hb] at hbacklog
    exact ⟨(Nat.le_succ _).trans hbacklog, hqueue, hanswer⟩
  | takeProbe hroom e =>
    obtain ⟨-, hqueue, hanswer⟩ := h
    refine ⟨?_, hqueue, hanswer⟩
    simp only [State.setProbe_probe, List.length_append, List.length_singleton]
    omega
  | emptyBacklog =>
    obtain ⟨-, hqueue, hanswer⟩ := h
    exact ⟨Nat.zero_le _, hqueue, hanswer⟩
  | lookup _ hq =>
    obtain ⟨hbacklog, hqueue, -⟩ := h
    rw [hq] at hqueue
    refine ⟨hbacklog, (Nat.le_succ _).trans hqueue, fun a ha => ?_⟩
    cases ha
    exact Nat.zero_lt_succ _
  | requestWord hroom q =>
    obtain ⟨hbacklog, -, hanswer⟩ := h
    refine ⟨hbacklog, ?_, hanswer⟩
    simp only [State.setSteering_steering, List.length_append, List.length_singleton]
    omega
  | wordTaken ha =>
    obtain ⟨hbacklog, hqueue, -⟩ := h
    refine ⟨hbacklog, hqueue, fun a' ha' => ?_⟩
    simp only [State.setSteering_steering] at ha'
    split at ha'
    · cases ha'
    · cases ha'
      exact not_le.mp ‹_›
  | _ => exact h.frame (by simp) (by simp) (by simp)

/-- Settles O58: by the events a step makes. -/
theorem stepKeepsTimeAndQueuesSound : Obligations.StepKeepsTimeAndQueuesSound :=
  fun _ _ hs h => step_keeps (P := fun u => u.time.sound ∧ u.queuesSound)
    (fun he h => ⟨event_keeps_time he h.1, event_keeps_queues he h.2⟩) hs h

end Sys2Proof.Machine
end

section
/-! PROOF, for the statements about the channel. What stands outside the owning blocks of the requests: the arbiter's
pointer and the list engine's part of the channel, which no apply reads or writes. -/

namespace Sys2Proof.Machine

open Sys2Proof

/-! ### The state with other settings of the arbiter and the list engine -/

/-- `s` with the arbiter's pointer `a` and the channel `c`, but for the pending interrupt flags, which stay. -/
def State.withEngine (a : Fin 9) (c : Channel) (s : State) : State :=
  { s with arbiter := a, chan := { c with pendingIrq := s.chan.pendingIrq } }

section
variable (a : Fin 9) (c : Channel) (s : State)

@[simp] theorem State.withEngine_self : s.withEngine s.arbiter s.chan = s := rfl

@[simp] theorem State.withEngine_hops : (s.withEngine a c).hops = s.hops := rfl
@[simp] theorem State.withEngine_holds : (s.withEngine a c).holds = s.holds := rfl
@[simp] theorem State.withEngine_paths : (s.withEngine a c).paths = s.paths := rfl
@[simp] theorem State.withEngine_routes : (s.withEngine a c).routes = s.routes := rfl
@[simp] theorem State.withEngine_time : (s.withEngine a c).time = s.time := rfl
@[simp] theorem State.withEngine_probe : (s.withEngine a c).probe = s.probe := rfl
@[simp] theorem State.withEngine_lines : (s.withEngine a c).lines = s.lines := rfl
@[simp] theorem State.withEngine_profiles : (s.withEngine a c).profiles = s.profiles := rfl
@[simp] theorem State.withEngine_classes : (s.withEngine a c).classes = s.classes := rfl

/-! ### It passes through every operation on another block -/

theorem State.withEngine_setLine (l : LineIndex) (x : Line) :
    (s.withEngine a c).setLine l x = (s.setLine l x).withEngine a c := rfl

theorem State.withEngine_setPath (p : PathIndex) (x : Path) :
    (s.withEngine a c).setPath p x = (s.setPath p x).withEngine a c := rfl

theorem State.withEngine_setTime (x : TimeBase) : (s.withEngine a c).setTime x = (s.setTime x).withEngine a c := rfl

theorem State.withEngine_setProbe (x : ProbeEngine) :
    (s.withEngine a c).setProbe x = (s.setProbe x).withEngine a c := rfl

theorem State.withEngine_raise (v : IrqVector) : (s.withEngine a c).raise v = (s.raise v).withEngine a c := rfl

theorem State.withEngine_countAttention (old new : Bool) :
    (s.withEngine a c).countAttention old new = (s.countAttention old new).withEngine a c := by
  unfold State.countAttention
  split
  · dsimp only
    rw [apply_ite (State.withEngine a c)]
    rfl
  · rfl
  · rfl

theorem State.withEngine_putHop (i : HopIndex) (x : Hop) :
    (s.withEngine a c).putHop i x = (s.putHop i x).withEngine a c :=
  congrArg (State.setHop i x) (s.withEngine_countAttention a c _ _)

theorem State.withEngine_putRoute (i : RouteIndex) (x : Route) :
    (s.withEngine a c).putRoute i x = (s.putRoute i x).withEngine a c :=
  congrArg (State.setRoute i x) (s.withEngine_countAttention a c _ _)

theorem State.withEngine_triggerIf (b : Bool) (w : Trigger) :
    (s.withEngine a c).triggerIf b w = (s.triggerIf b w).withEngine a c := by
  cases b <;> rfl

theorem State.withEngine_trigger (w : Trigger) : (s.withEngine a c).trigger w = (s.trigger w).withEngine a c := rfl

theorem State.withEngine_freeSlots (v : Slot → Bool) :
    (s.withEngine a c).freeSlots v = (s.freeSlots v).withEngine a c := rfl

theorem State.withEngine_countDevice (f : DeviceCounters → DeviceCounters) :
    (s.withEngine a c).countDevice f = (s.countDevice f).withEngine a c := rfl

theorem State.withEngine_makeStep : (s.withEngine a c).makeStep = s.makeStep.withEngine a c := rfl

theorem State.withEngine_enterTimeState (x : TimeState) :
    (s.withEngine a c).enterTimeState x = (s.enterTimeState x).withEngine a c := by
  unfold State.enterTimeState
  dsimp only
  rw [apply_ite (State.withEngine a c)]
  rfl

theorem State.withEngine_reloadTimer (p : PathIndex) :
    (s.withEngine a c).reloadTimer p = (s.reloadTimer p).withEngine a c := rfl

theorem State.withEngine_recomputed (r : Route) : (s.withEngine a c).recomputed r = s.recomputed r := rfl

theorem State.withEngine_changeHolds (holds : Vector (Option (BitVec 64)) 8) :
    (s.withEngine a c).changeHolds holds = (s.changeHolds holds).withEngine a c := rfl

theorem State.withEngine_dropFromRoute (p : PathIndex) (i : RouteIndex) :
    (s.withEngine a c).dropFromRoute p i = (s.dropFromRoute p i).withEngine a c := by
  unfold State.dropFromRoute
  dsimp only [State.withEngine_routes, State.withEngine_recomputed]
  rw [State.withEngine_putRoute]
  exact (apply_ite (State.withEngine a c) _ _ _).symm

theorem State.withEngine_dropFromRoutes (p : PathIndex) (l : List RouteIndex) :
    (s.withEngine a c).dropFromRoutes p l = (s.dropFromRoutes p l).withEngine a c := by
  induction l generalizing s with
  | nil => rfl
  | cons i l ih =>
    change ((s.withEngine a c).dropFromRoute p i).dropFromRoutes p l = _
    rw [State.withEngine_dropFromRoute, ih]
    rfl

end

/-! ### It passes through every apply -/

/-- The outcome of an apply with other settings of the arbiter and the list engine. -/
def withEngineFst (a : Fin 9) (c : Channel) (out : State × Reply) : State × Reply := (out.1.withEngine a c, out.2)

section
variable (a : Fin 9) (c : Channel) (s : State)

theorem contentFault_withEngine (i : Instr) : contentFault i (s.withEngine a c) = contentFault i s := by
  cases i <;> rfl

theorem guarded_withEngine {i : Instr} {apply : State → State × Reply}
    (h : apply (s.withEngine a c) = withEngineFst a c (apply s)) :
    guarded i apply (s.withEngine a c) = withEngineFst a c (guarded i apply s) := by
  unfold guarded
  rw [contentFault_withEngine]
  split
  · rfl
  · exact h

theorem applyPlaceHold_withEngine (k : LevelIndex) (map : BitVec 64) :
    applyPlaceHold k map (s.withEngine a c) = withEngineFst a c (applyPlaceHold k map s) := by
  unfold applyPlaceHold
  rw [apply_ite (withEngineFst a c), apply_ite (withEngineFst a c)]
  rfl

theorem applyReleaseHold_withEngine (k : LevelIndex) :
    applyReleaseHold k (s.withEngine a c) = withEngineFst a c (applyReleaseHold k s) := by
  unfold applyReleaseHold
  rw [apply_ite (withEngineFst a c)]
  rfl

theorem applyWritePath_withEngine (p : PathIndex) (image : PathImage) :
    applyWritePath p image (s.withEngine a c) = withEngineFst a c (applyWritePath p image s) := by
  unfold applyWritePath
  dsimp only [State.withEngine_paths]
  split
  · split
    · rw [State.withEngine_setPath, State.withEngine_reloadTimer]
      rfl
    · rfl
  · rw [State.withEngine_setPath, State.withEngine_reloadTimer]
    rfl

theorem applyRetirePath_withEngine (p : PathIndex) :
    applyRetirePath p (s.withEngine a c) = withEngineFst a c (applyRetirePath p s) := by
  rw [applyRetirePath_eq, applyRetirePath_eq]
  have hempty : (s.withEngine a c).emptyPath p = (s.emptyPath p).withEngine a c := rfl
  rw [hempty, State.withEngine_dropFromRoutes]
  exact Prod.ext (State.withEngine_trigger a c _ _) rfl

theorem applyRestartEstimate_withEngine (p : PathIndex) :
    applyRestartEstimate p (s.withEngine a c) = withEngineFst a c (applyRestartEstimate p s) := by
  unfold applyRestartEstimate
  rw [apply_ite (withEngineFst a c)]
  rfl

theorem applySetTime_withEngine (v : Quad) :
    applySetTime v (s.withEngine a c) = withEngineFst a c (applySetTime v s) := by
  unfold applySetTime withEngineFst
  dsimp only [State.withEngine_time]
  rw [apply_ite (State.withEngine a c), State.withEngine_setTime, State.withEngine_enterTimeState]
  rfl

theorem applyAdjustTime_withEngine (offset : Quad) :
    applyAdjustTime offset (s.withEngine a c) = withEngineFst a c (applyAdjustTime offset s) := by
  unfold applyAdjustTime
  rw [apply_ite (withEngineFst a c)]
  dsimp only [State.withEngine_time]
  rw [State.withEngine_setTime, State.withEngine_makeStep]
  rfl

theorem applyWriteDevice_withEngine (image : DeviceImage) :
    applyWriteDevice image (s.withEngine a c) = withEngineFst a c (applyWriteDevice image s) := by
  unfold applyWriteDevice
  by_cases hid : image.terminalId = s.probe.terminalId
  · simp only [State.withEngine_probe, hid, ne_eq, not_true_eq_false, if_false, withEngineFst,
      State.withEngine_setProbe]
  · simp only [State.withEngine_probe, hid, ne_eq, not_false_eq_true, if_true, withEngineFst,
      State.withEngine_setProbe, State.withEngine_freeSlots]

theorem applyReadDevice_withEngine (zero : Bool) :
    applyReadDevice zero (s.withEngine a c) = withEngineFst a c (applyReadDevice zero s) := by
  cases zero <;> rfl

theorem applyCollect_withEngine : applyCollect (s.withEngine a c) = withEngineFst a c (applyCollect s) := by
  have hhop : (s.withEngine a c).attentiveHop = s.attentiveHop := rfl
  have hroute : (s.withEngine a c).attentiveRoute = s.attentiveRoute := rfl
  unfold applyCollect
  rw [hhop, hroute]
  split
  · rw [State.withEngine_putHop]
    rfl
  · split
    · rw [State.withEngine_putRoute]
      rfl
    · rfl

theorem applyWriteRoute_withEngine (i : RouteIndex) (image : RouteImage) :
    applyWriteRoute i image (s.withEngine a c) = withEngineFst a c (applyWriteRoute i image s) := by
  unfold applyWriteRoute
  rw [State.withEngine_putRoute, State.withEngine_recomputed]
  rfl

theorem applyRetireRoute_withEngine (i : RouteIndex) :
    applyRetireRoute i (s.withEngine a c) = withEngineFst a c (applyRetireRoute i s) := by
  unfold applyRetireRoute
  rw [State.withEngine_putRoute]
  rfl

/-- No apply at an owning block reads or writes the arbiter or the list engine (R176). -/
theorem directApply_withEngine (i : Instr) :
    directApply i (s.withEngine a c) = (directApply i s).map (withEngineFst a c) := by
  cases i with
  | placeHold k map => exact congrArg some (applyPlaceHold_withEngine a c s k map)
  | releaseHold k => exact congrArg some (applyReleaseHold_withEngine a c s k)
  | writePath p image => exact congrArg some (guarded_withEngine a c s (applyWritePath_withEngine a c s p image))
  | retirePath p => exact congrArg some (applyRetirePath_withEngine a c s p)
  | restartEstimate p => exact congrArg some (applyRestartEstimate_withEngine a c s p)
  | setTime v => exact congrArg some (applySetTime_withEngine a c s v)
  | adjustTime v => exact congrArg some (applyAdjustTime_withEngine a c s v)
  | writeTiming image => exact congrArg some (guarded_withEngine a c s rfl)
  | writeDevice image => exact congrArg some (guarded_withEngine a c s (applyWriteDevice_withEngine a c s image))
  | readDevice zero => exact congrArg some (applyReadDevice_withEngine a c s zero)
  | writeClass k image => exact congrArg some (guarded_withEngine a c s rfl)
  | collect => exact congrArg some (applyCollect_withEngine a c s)
  | writeRoute i image => exact congrArg some (guarded_withEngine a c s (applyWriteRoute_withEngine a c s i image))
  | retireRoute i => exact congrArg some (applyRetireRoute_withEngine a c s i)
  | _ => rfl

theorem applyRetireHop_withEngine (i : HopIndex) :
    applyRetireHop i (s.withEngine a c) = withEngineFst a c (applyRetireHop i s) := by
  unfold applyRetireHop
  rw [apply_ite (withEngineFst a c)]
  dsimp only [State.withEngine_hops]
  rw [State.withEngine_putHop, State.withEngine_triggerIf]
  rfl

theorem applyWriteHop_withEngine (i : HopIndex) (image : HopImage) :
    applyWriteHop i image (s.withEngine a c) = withEngineFst a c (applyWriteHop i image s) := by
  unfold applyWriteHop
  dsimp only [State.withEngine_hops]
  rw [State.withEngine_putHop]
  rfl

theorem applyClearHopCounts_withEngine (i : HopIndex) :
    applyClearHopCounts i (s.withEngine a c) = withEngineFst a c (applyClearHopCounts i s) := by
  unfold applyClearHopCounts
  rw [State.withEngine_putHop]
  rfl

/-- Nor does the apply of a hop request at its record (R14). -/
theorem hopApply_withEngine (i : Instr) :
    hopApply i (s.withEngine a c) = (hopApply i s).map (withEngineFst a c) := by
  cases i with
  | writeHop i image => exact congrArg some (guarded_withEngine a c s (applyWriteHop_withEngine a c s i image))
  | retireHop i => exact congrArg some (applyRetireHop_withEngine a c s i)
  | clearHopCounts i => exact congrArg some (applyClearHopCounts_withEngine a c s i)
  | _ => rfl

end

end Sys2Proof.Machine
end

section
/-! PROOF of O59. The list engine keeps its state, its work and its record in step (R169, R172, R180); every other
command reaches the channel through the pending interrupt flags alone. -/

namespace Sys2Proof.Machine

open Sys2Proof

/-! ### The channel within a list -/

/-- A list is in execution and a further block may begin or end it: the record has no end kind and at most 1,024
blocks (R172). -/
def Channel.inList (c : Channel) : Prop :=
  (c.state = .running ∨ c.state = .halting) ∧ c.record.endKind = .none ∧ c.record.executed ≤ Config.listLengthMax

section
variable {c : Channel} {s : State}

theorem Channel.sound.inList (h : c.sound) (hw : c.work ≠ .idle) : c.inList := by
  obtain ⟨hwork, hexecuted, -, hnone, -, -⟩ := h
  exact ⟨hwork.mp hw, hnone (hwork.mp hw), hexecuted⟩

theorem Channel.sound.executed_lt (h : c.sound) (hw : c.work.isSkipOrIdle = false) :
    c.record.executed < Config.listLengthMax := by
  obtain ⟨-, -, hexecuted, -⟩ := h
  exact hexecuted hw

/-- A block that waits for anything but its fetch: the list goes on. -/
theorem Channel.inList.sound (h : c.inList) (hw : c.work ≠ .idle)
    (hlength : c.work.isSkipOrIdle = false → c.record.executed < Config.listLengthMax)
    (hwaited : c.work.waited < Config.readTimeout) : c.sound := by
  obtain ⟨hstate, hkind, hexecuted⟩ := h
  refine ⟨iff_of_true hw hstate, hexecuted, hlength, fun _ => hkind, fun hended => ?_, hwaited⟩
  rw [hended] at hstate
  rcases hstate with h | h <;> cases h

/-- An ended list. -/
theorem Channel.sound_of_ended (hstate : c.state = .ended) (hwork : c.work = .idle)
    (hexecuted : c.record.executed ≤ Config.listLengthMax) (hkind : c.record.endKind ≠ .none) : c.sound := by
  have hstops : ¬ (c.state = .running ∨ c.state = .halting) := by
    rw [hstate]
    rintro (h | h) <;> cases h
  refine ⟨iff_of_false (not_not_intro hwork) hstops, hexecuted, fun h => ?_, fun h => absurd h hstops,
      fun _ => hkind, ?_⟩
  · rw [hwork] at h
    cases h
  · rw [hwork]
    exact Nat.zero_lt_succ _

/-! ### The operations of the list engine -/

theorem endList_sound {kind : EndKind} (h : s.chan.inList) (hk : kind ≠ .none) : (s.endList kind).chan.sound :=
  Channel.sound_of_ended rfl rfl h.2.2 hk

theorem endCheck_sound {kind : EndKind} (h : s.chan.inList) (hk : kind ≠ .none) (cause : Cause) (address : Quad) :
    (s.endCheck kind cause address).chan.sound :=
  Channel.sound_of_ended rfl rfl h.2.2 hk

theorem issueFetch_sound (h : s.chan.inList) (skipped : Bool) (address : Quad) :
    (s.issueFetch skipped address).chan.sound := by
  unfold State.issueFetch
  split
  · exact endCheck_sound h (by decide) ..
  · rename_i hroom
    split
    · exact endCheck_sound h (by decide) ..
    · obtain ⟨hstate, hkind, hexecuted⟩ := h
      cases skipped with
      | true => exact Channel.inList.sound ⟨hstate, hkind, hexecuted⟩ nofun nofun (Nat.zero_lt_succ _)
      | false =>
        have hlt : s.chan.record.executed < Config.listLengthMax := by simpa using hroom
        exact Channel.inList.sound ⟨hstate, hkind, hexecuted⟩ nofun (fun _ => hlt) (Nat.zero_lt_succ _)

theorem recordCondition_inList (h : s.chan.inList) (hlt : s.chan.record.executed < Config.listLengthMax) (b : Block)
    (condition : Condition) (cause : Cause) : (s.recordCondition b condition cause).chan.inList := by
  obtain ⟨hstate, hkind, -⟩ := h
  unfold State.recordCondition
  dsimp only
  split <;> exact ⟨hstate, hkind, hlt⟩

theorem reachCondition_sound (h : s.chan.inList) (hlt : s.chan.record.executed < Config.listLengthMax) (b : Block)
    (condition : Condition) (cause : Cause) : (s.reachCondition b condition cause).chan.sound := by
  have hrecorded := recordCondition_inList h hlt b condition cause
  unfold State.reachCondition
  dsimp only
  split
  · exact endList_sound hrecorded nofun
  · split
    · exact endList_sound hrecorded nofun
    · split
      · exact issueFetch_sound hrecorded ..
      · exact issueFetch_sound hrecorded ..

theorem finishApply_sound (h : s.chan.inList) (hlt : s.chan.record.executed < Config.listLengthMax) (b : Block)
    (r : Reply) : (s.finishApply b r).chan.sound := by
  unfold State.finishApply
  split
  · exact endCheck_sound h (by decide) ..
  · split
    · exact reachCondition_sound h hlt ..
    · exact Channel.inList.sound h nofun (fun _ => hlt) (Nat.zero_lt_succ _)

theorem proceed_sound (h : s.chan.sound) (hw : s.chan.work.isSkipOrIdle = false) (row : CatalogueRow) (b : Block) :
    (s.proceed row b).chan.sound := by
  have hne : s.chan.work ≠ .idle := fun e => by simp [e, Work.isSkipOrIdle] at hw
  have hlt := h.executed_lt hw
  unfold State.proceed
  split
  · split
    · exact endCheck_sound (h.inList hne) (by decide) ..
    · exact Channel.inList.sound (h.inList hne) nofun (fun _ => hlt) (Nat.zero_lt_succ _)
  · split
    · exact Channel.inList.sound (h.inList hne) nofun (fun _ => hlt) (Nat.zero_lt_succ _)
    · exact h

theorem checkBlock_ends_kind {b : Block} {kind : EndKind} {cause : Cause} (h : s.checkBlock b = .ends kind cause) :
    kind ≠ .none := by
  rintro rfl
  unfold State.checkBlock at h
  split at h
  · cases h
  · split at h
    · cases h
    · split at h
      · cases h
      · unfold State.checkRow at h
        dsimp only at h
        repeat' split at h
        all_goals cases h

theorem takeBlock_sound (h : s.chan.sound) (hw : s.chan.work.isSkipOrIdle = false) (b : Block) :
    (s.takeBlock b).chan.sound := by
  have hne : s.chan.work ≠ .idle := fun e => by simp [e, Work.isSkipOrIdle] at hw
  unfold State.takeBlock
  split
  · exact endCheck_sound (h.inList hne) (checkBlock_ends_kind ‹_›) ..
  · exact reachCondition_sound (h.inList hne) (h.executed_lt hw) ..
  · exact proceed_sound h hw ..

theorem takeData_sound (h : s.chan.sound) (hw : s.chan.work.isSkipOrIdle = false) (b : Block) (d : BitVec 256) :
    (s.takeData b d).chan.sound := by
  have hne : s.chan.work ≠ .idle := fun e => by simp [e, Work.isSkipOrIdle] at hw
  unfold State.takeData
  split
  · exact endCheck_sound (h.inList hne) (by decide) ..
  · split
    · exact endCheck_sound (h.inList hne) (by decide) ..
    · exact Channel.inList.sound (h.inList hne) nofun (fun _ => h.executed_lt hw) (Nat.zero_lt_succ _)

theorem skipBlock_sound (h : s.chan.inList) (b : Block) : (s.skipBlock b).chan.sound := by
  have hrecorded : (s.recordSkip b.address).chan.inList := h
  unfold State.skipBlock
  dsimp only
  split
  · exact endList_sound hrecorded nofun
  · split
    · exact endList_sound hrecorded nofun
    · exact issueFetch_sound hrecorded ..

theorem startList_sound (h : s.chan.sound) : s.startList.chan.sound := by
  unfold State.startList
  split
  · have hbegun : (s.setChan { s.chan with
        state := .running, refusedStart := false, record := .zero, progress := 0, afterJump := false }).chan.inList :=
      ⟨.inl rfl, rfl, Nat.zero_le _⟩
    dsimp only
    split
    · exact issueFetch_sound hbegun ..
    · exact endCheck_sound hbegun (by decide) ..
  · exact h

theorem haltList_sound (h : s.chan.sound) : s.haltList.chan.sound := by
  obtain ⟨hwork, hexecuted, hlength, hnone, hended, hwaited⟩ := h
  unfold State.haltList
  split
  · rename_i hrunning
    exact ⟨iff_of_true (hwork.mpr (.inl hrunning)) (.inr rfl), hexecuted, hlength,
      fun _ => hnone (.inl hrunning), nofun, hwaited⟩
  · exact ⟨hwork, hexecuted, hlength, hnone, hended, hwaited⟩

theorem ackList_sound (h : s.chan.sound) : s.ackList.chan.sound := by
  obtain ⟨hwork, hexecuted, hlength, hnone, hended, hwaited⟩ := h
  unfold State.ackList
  split
  · rename_i hstate
    have hidle : ¬ s.chan.work ≠ .idle := fun e => by
      rcases hwork.mp e with h | h <;> rw [hstate] at h <;> cases h
    exact ⟨iff_of_false hidle (by rintro (h | h) <;> cases h), hexecuted, hlength, (by rintro (h | h) <;> cases h),
      nofun, hwaited⟩
  · exact ⟨hwork, hexecuted, hlength, hnone, hended, hwaited⟩

/-- A channel at rest in IDLE with a cleared record (R167, R181). -/
theorem Channel.sound_of_cleared (hstate : c.state = .idle) (hwork : c.work = .idle) (hrecord : c.record = .zero) :
    c.sound := by
  have hstops : ¬ (c.state = .running ∨ c.state = .halting) := by
    rw [hstate]
    rintro (h | h) <;> cases h
  refine ⟨iff_of_false (not_not_intro hwork) hstops, ?_, fun h => ?_, fun h => absurd h hstops, fun h => ?_, ?_⟩
  · rw [hrecord]
    exact Nat.zero_le _
  · rw [hwork] at h
    cases h
  · rw [hstate] at h
    cases h
  · rw [hwork]
    exact Nat.zero_lt_succ _

theorem clearChannel_sound : s.clearChannel.chan.sound := Channel.sound_of_cleared rfl rfl rfl

theorem writeWord_sound (h : s.chan.sound) (offset : Nat) (v : BitVec 32) : (s.writeWord offset v).chan.sound := by
  unfold State.writeWord
  split
  · exact h
  · exact h
  · unfold State.control
    split
    · exact startList_sound h
    · exact haltList_sound h
    · exact clearChannel_sound
    · exact ackList_sound h
    · exact h
  · exact h

@[simp] theorem Work.tick_isSkipOrIdle (w : Work) : w.tick.isSkipOrIdle = w.isSkipOrIdle := by cases w <;> rfl

theorem Work.tick_ne_idle {w : Work} (h : w ≠ .idle) : w.tick ≠ .idle := by
  cases w with
  | idle => exact absurd rfl h
  | _ => exact nofun

/-- After a tick, the read that has waited 50 ticks has failed, and any other waits on (R169). -/
theorem readTimeout_sound (h : s.chan.inList) (hw : s.chan.work ≠ .idle)
    (hlength : s.chan.work.isSkipOrIdle = false → s.chan.record.executed < Config.listLengthMax) :
    s.readTimeout.chan.sound := by
  unfold State.readTimeout
  split
  · rename_i hfetching
    split
    · exact endCheck_sound h (by decide) ..
    · exact h.sound hw hlength (by rw [hfetching]; exact not_le.mp ‹_›)
  · rename_i hreading
    split
    · exact endCheck_sound h (by decide) ..
    · exact h.sound hw hlength (by rw [hreading]; exact not_le.mp ‹_›)
  · rename_i hfetching hreading
    refine h.sound hw hlength ?_
    cases hwork : s.chan.work with
    | fetching => exact absurd hwork (hfetching _ _ _ _)
    | reading => exact absurd hwork (hreading _ _ _)
    | _ => exact Nat.zero_lt_succ _

theorem channelTick_sound (h : s.chan.sound) : (s.takeTick .channel).chan.sound := by
  change s.advanceChannel.readTimeout.chan.sound
  have hwork : s.advanceChannel.chan.work = s.chan.work.tick := rfl
  by_cases hw : s.chan.work = .idle
  · have hsame : s.advanceChannel = s := by
      simp only [State.advanceChannel, hw, Work.tick]
      rw [← hw]
      rfl
    rw [hsame]
    simp only [State.readTimeout, hw]
    exact h
  · refine readTimeout_sound (s := s.advanceChannel) (h.inList hw) ?_ ?_ <;> rw [hwork]
    · exact Work.tick_ne_idle hw
    · rw [Work.tick_isSkipOrIdle]
      exact h.executed_lt

theorem issueImageWrite_sound (h : s.chan.sound) (n : Nat) : (s.issueImageWrite n).chan.sound := by
  unfold State.issueImageWrite
  split
  · rename_i b left next hw
    have hin := h.inList (by rw [hw]; exact nofun)
    have hlt := h.executed_lt (by rw [hw]; rfl)
    split
    · exact h
    · split
      · exact endCheck_sound hin (by decide) ..
      · dsimp only
        split
        · exact reachCondition_sound (s := s.emit (.hostWrite next (left.take n))) hin hlt ..
        · exact Channel.inList.sound hin nofun (fun _ => hlt) (Nat.zero_lt_succ _)
  · exact h

end

/-! ### Commands of the other blocks -/

/-- The channel but for its pending interrupt flags. -/
def State.engine (s : State) : Channel := { s.chan with pendingIrq := .clear }

theorem sound_of_engine {s t : State} (h : s.chan.sound) (he : t.engine = s.engine) : t.chan.sound := by
  have hs : s.engine.sound := h
  rw [← he] at hs
  exact hs

section
variable {s t : State}

theorem engine_of_chan (h : t.chan = s.chan) : t.engine = s.engine := by
  unfold State.engine
  rw [h]

@[simp] theorem State.raise_engine (v : IrqVector) (s : State) : (s.raise v).engine = s.engine := rfl

@[simp] theorem State.countAttention_engine (old new : Bool) (s : State) :
    (s.countAttention old new).engine = s.engine := by
  unfold State.countAttention
  split
  · dsimp only
    split <;> rfl
  · rfl
  · rfl

@[simp] theorem State.putHop_engine (i : HopIndex) (x : Hop) (s : State) : (s.putHop i x).engine = s.engine :=
  s.countAttention_engine _ _

@[simp] theorem State.putRoute_engine (i : RouteIndex) (x : Route) (s : State) : (s.putRoute i x).engine = s.engine :=
  s.countAttention_engine _ _

@[simp] theorem State.triggerIf_engine (b : Bool) (w : Trigger) (s : State) : (s.triggerIf b w).engine = s.engine := by
  cases b <;> rfl

/-- The apply of a request leaves the list engine to the settling (R176). -/
theorem directApply_engine {c : Instr} {out : State × Reply} (h : directApply c s = some out) :
    out.1.engine = s.engine := by
  have hkept := directApply_withEngine s.arbiter s.chan s c
  rw [State.withEngine_self, h] at hkept
  have hout : out.1 = out.1.withEngine s.arbiter s.chan := congrArg Prod.fst (Option.some.inj hkept)
  rw [hout]
  rfl

theorem hopApply_engine {c : Instr} {out : State × Reply} (h : hopApply c s = some out) :
    out.1.engine = s.engine := by
  have hkept := hopApply_withEngine s.arbiter s.chan s c
  rw [State.withEngine_self, h] at hkept
  have hout : out.1 = out.1.withEngine s.arbiter s.chan := congrArg Prod.fst (Option.some.inj hkept)
  rw [hout]
  rfl

theorem settle_sound {c : Instr} {out : State × Reply} (h : out.1.chan.sound) : (State.settle c out).chan.sound := by
  by_cases hwaits : ∃ b, out.1.chan.work = .applying b c
  · obtain ⟨b, hb⟩ := hwaits
    rw [settle_waiting hb]
    exact finishApply_sound (s := { out.1 with reply := out.2 }) (h.inList (by rw [hb]; exact nofun))
      (h.executed_lt (by rw [hb]; rfl)) ..
  · rw [settle_other fun b hb => hwaits ⟨b, hb⟩]
    exact h

theorem maintenanceTurn_sound (h : s.chan.sound) : s.maintenanceTurn.chan.sound := by
  unfold State.maintenanceTurn
  split
  · split
    · rename_i b i hawaiting
      have hw : s.chan.work = .applying b i := by
        unfold State.awaiting at hawaiting
        split at hawaiting
        · cases hawaiting
          assumption
        · cases hawaiting
      split
      · rename_i out hout
        have hkept : out.1.engine = s.engine := (hopApply_engine hout).trans rfl
        have hchan : out.1.chan.sound := sound_of_engine h hkept
        have hwork : out.1.chan.work = .applying b i := (congrArg Channel.work hkept).trans hw
        exact finishApply_sound (s := out.1.setReply out.2) (hchan.inList (by rw [hwork]; exact nofun))
          (hchan.executed_lt (by rw [hwork]; rfl)) ..
      · exact h
    · exact h
  · exact h

theorem hopRequest_sound {c : Instr} {out : State × Reply} (h : s.chan.sound) (ho : hopApply c s = some out) :
    (s.hopRequest c out).chan.sound := by
  unfold State.hopRequest
  split
  · exact maintenanceTurn_sound h
  · exact sound_of_engine (s := s) (t := out.1.setReply out.2) h (hopApply_engine ho)

theorem clearHoldExpiry_engine (i : HopIndex) (s : State) : (s.clearHoldExpiry i).engine = s.engine := by
  unfold State.clearHoldExpiry State.trigger
  split
  · rw [State.triggerIf_engine, State.putHop_engine]
  · rfl

theorem silenceExpiry_engine (i : HopIndex) (s : State) : (s.silenceExpiry i).engine = s.engine := by
  unfold State.silenceExpiry State.trigger
  split
  · rw [State.triggerIf_engine, State.putHop_engine]
  · rfl

@[simp] theorem enterTimeState_engine (x : TimeState) (s : State) : (s.enterTimeState x).engine = s.engine := by
  unfold State.enterTimeState
  dsimp only
  split <;> rfl

theorem holdoverEntry_engine (s : State) : s.holdoverEntry.engine = s.engine := by
  unfold State.holdoverEntry
  split
  · rw [enterTimeState_engine]
    rfl
  · rfl

theorem echoTimeout_engine (k : SlotIndex) (s : State) : (s.echoTimeout k).engine = s.engine := by
  unfold State.echoTimeout
  split
  · dsimp only
    split
    · rw [State.triggerIf_engine]
      rfl
    · rfl
  · rfl

theorem queueProbe_engine (p : PathIndex) (s : State) : (s.queueProbe p).engine = s.engine := by
  unfold State.queueProbe
  dsimp only
  split
  · rfl
  · split
    · rfl
    · split <;> rfl

theorem probeTimerExpiry_engine (p : PathIndex) (s : State) : (s.probeTimerExpiry p).engine = s.engine := by
  unfold State.probeTimerExpiry
  split
  · rw [queueProbe_engine]
    rfl
  · rfl

theorem absorb_engine (i : HopIndex) (r : Report) (stamp : Quad) (s : State) :
    (s.absorb i r stamp).engine = s.engine := by
  unfold State.absorb
  dsimp only
  rw [State.triggerIf_engine, State.triggerIf_engine, State.putHop_engine]

theorem dealWithFrame_engine (l : LineIndex) (x : Buffered) (s : State) :
    (s.dealWithFrame l x).engine = s.engine := by
  unfold State.dealWithFrame
  dsimp only
  split
  · split
    · rfl
    · split
      · rfl
      · rw [absorb_engine]
        rfl
  · rfl

theorem lineTurn_engine (l : LineIndex) (s : State) : (s.lineTurn l).engine = s.engine := by
  unfold State.lineTurn
  split
  · dsimp only
    rw [dealWithFrame_engine]
    rfl
  · rfl

theorem transmitGrant_engine (s : State) : s.transmitGrant.engine = s.engine := by
  unfold State.transmitGrant
  split
  · rfl
  · split
    · unfold State.sendEcho
      split <;> rfl
    · split
      · split <;> rfl
      · rfl

theorem matchEcho_engine (k : SlotIndex) (p : PathIndex) (t1 : Quad) (f : ReceivedFrame) (t4 : Quad) (s : State) :
    (s.matchEcho k p t1 f t4).engine = s.engine := by
  unfold State.matchEcho
  dsimp only
  rw [State.triggerIf_engine]
  rfl

theorem takeFrame_engine (bytes : List Byte) (port : Byte) (a : Arrival) (s : State) :
    (s.takeFrame bytes port a).engine = s.engine := by
  have hprobe : ∀ f, (s.takeProbe f a port).engine = s.engine := by
    intro f
    unfold State.takeProbe
    repeat' split
    all_goals rfl
  have hecho : ∀ f, (s.takeEcho f a).engine = s.engine := by
    intro f
    unfold State.takeEcho
    split
    · rfl
    · split
      · split
        · exact matchEcho_engine ..
        · rfl
      · rfl
  unfold State.takeFrame
  dsimp only
  repeat' split
  all_goals first | rfl | exact hprobe _ | exact hecho _

/-- An accepted pulse reaches the channel through the time-state flag alone. -/
theorem correction_engine (s : State) (byRate : Prop) [Decidable byRate] (x y : TimeBase) :
    (if byRate then s.setTime x else (s.setTime y).makeStep).engine = s.engine := by
  split <;> rfl

theorem acceptPulse_engine (s : State) : s.acceptPulse.engine = s.engine := by
  have henter : ∀ u : State, u.engine = s.engine → (u.enterTimeState .tracking).engine = s.engine :=
    fun u hu => (enterTimeState_engine .tracking u).trans hu
  exact henter _ (correction_engine s _ _ _)

theorem tick_sound (x : TickPlace) (h : s.chan.sound) : (s.tick x).chan.sound := by
  unfold State.tick
  split
  · exact h
  · have hticks : (s.setTicks (s.ticks.take x)).chan.sound := h
    cases x with
    | hop i => exact sound_of_engine hticks ((silenceExpiry_engine ..).trans (clearHoldExpiry_engine ..))
    | supervision => exact sound_of_engine hticks ((holdoverEntry_engine _).trans rfl)
    | slot k =>
      refine sound_of_engine hticks ((echoTimeout_engine k _).trans ?_)
      unfold State.advanceSlot
      rfl
    | path p => exact sound_of_engine hticks ((probeTimerExpiry_engine ..).trans rfl)
    | channel => exact channelTick_sound hticks

theorem ite_sound {p : Prop} [Decidable p] {u : State} (hu : u.chan.sound) (h : s.chan.sound) :
    (if p then u else s).chan.sound := by
  split
  · exact hu
  · exact h

/-- Every command keeps the channel sound. -/
theorem exec_keeps_channel {c : Instr} (h : exec c s = .next t) (hs : s.chan.sound) : t.chan.sound := by
  cases hd : directApply c s with
  | some out =>
    rw [exec_of_directApply hd] at h
    cases h
    exact settle_sound (sound_of_engine hs (directApply_engine hd))
  | none =>
    cases c with
    | powerOnReset => cases h; exact Channel.sound_of_cleared rfl rfl rfl
    | warmReset source => cases h; cases source <;> exact Channel.sound_of_cleared rfl rfl rfl
    | lineTurn =>
      change execLineTurn s = _ at h
      unfold execLineTurn at h
      split at h
      · split at h <;> cases h
        · exact sound_of_engine hs (lineTurn_engine ..)
        · exact hs
      · cases h
        exact hs
    | maintenanceTurn => cases h; exact maintenanceTurn_sound hs
    | readHop i => cases h; exact hopRequest_sound hs rfl
    | writeHop i image => cases h; exact hopRequest_sound hs rfl
    | retireHop i => cases h; exact hopRequest_sound hs rfl
    | clearHopCounts i => cases h; exact hopRequest_sound hs rfl
    | millisecondTick x => cases h; exact tick_sound x hs
    | clearHoldExpiry i | silenceExpiry i | holdoverEntry | probeTimerExpiry p | echoTimeout k | busMasterReadTimeout =>
      cases h
      exact ite_sound (tick_sound _ hs) hs
    | referencePulse =>
      change execReferencePulse s = _ at h
      unfold execReferencePulse at h
      split at h
      · cases h
        exact hs
      · split at h <;> cases h
        · exact hs
        · exact sound_of_engine hs (acceptPulse_engine s)
    | oscillatorPeriod =>
      cases h
      exact hs
    | stepSignalProbeEngine =>
      change execStepSignalProbeEngine s = _ at h
      unfold execStepSignalProbeEngine at h
      split at h <;> cases h <;> exact hs
    | stepSignalRouteTable =>
      change execStepSignalRouteTable s = _ at h
      unfold execStepSignalRouteTable at h
      split at h <;> cases h <;> exact hs
    | probeTransmitGrant => cases h; exact sound_of_engine hs (transmitGrant_engine s)
    | frameTransmissionEnd =>
      change execFrameTransmissionEnd s = _ at h
      unfold execFrameTransmissionEnd at h
      split at h <;> cases h <;> exact hs
    | probeFrameReceived bytes port =>
      change execProbeFrameReceived bytes port s = _ at h
      unfold execProbeFrameReceived at h
      split at h <;> cases h
      · exact sound_of_engine hs ((takeFrame_engine ..).trans rfl)
      · exact hs
    | reRankTrigger w =>
      change execReRankTrigger w s = _ at h
      unfold execReRankTrigger at h
      split at h <;> cases h <;> exact hs
    | recomputation =>
      change execRecomputation s = _ at h
      unfold execRecomputation at h
      split at h <;> cases h
      · exact sound_of_engine hs (State.putRoute_engine ..)
      · exact hs
    | steeringRequestWord w =>
      change execSteeringRequestWord w s = _ at h
      unfold execSteeringRequestWord at h
      split at h
      · split at h <;> cases h <;> exact hs
      · cases h
        exact hs
    | lookupComputation =>
      change execLookupComputation s = _ at h
      unfold execLookupComputation at h
      split at h <;> cases h <;> exact hs
    | answerWordTaken =>
      change execAnswerWordTaken s = _ at h
      unfold execAnswerWordTaken at h
      split at h <;> cases h <;> exact hs
    | start => cases h; exact startList_sound hs
    | halt => cases h; exact haltList_sound hs
    | ack => cases h; exact ackList_sound hs
    | channelClear => cases h; exact clearChannel_sound
    | windowWrite offset size v =>
      change execWindowWrite offset size v s = _ at h
      unfold execWindowWrite at h
      split at h
      · cases h
        exact writeWord_sound hs ..
      · split at h <;> cases h
        · exact writeWord_sound (writeWord_sound hs ..) ..
        · exact hs
    | configurationWrite setting => cases setting <;> cases h <;> exact hs
    | blockFetchComplete tag block =>
      change execBlockFetchComplete tag block s = _ at h
      unfold execBlockFetchComplete at h
      split at h
      · rename_i hw
        split at h
        · split at h <;> cases h
          · exact endCheck_sound (hs.inList (by rw [hw]; exact nofun)) (by decide) ..
          · exact takeBlock_sound hs (by rw [hw]; rfl) _
        · cases h
          exact hs
      · cases h
        exact hs
    | dataReadComplete tag data =>
      change execDataReadComplete tag data s = _ at h
      unfold execDataReadComplete at h
      split at h
      · rename_i hw
        split at h
        · split at h <;> cases h
          · exact endCheck_sound (hs.inList (by rw [hw]; exact nofun)) (by decide) ..
          · exact takeData_sound hs (by rw [hw]; rfl) ..
        · cases h
          exact hs
      · cases h
        exact hs
    | skippedBlockFetchComplete tag block =>
      change execSkippedBlockFetchComplete tag block s = _ at h
      unfold execSkippedBlockFetchComplete at h
      split at h
      · rename_i hw
        have hin := hs.inList (by rw [hw]; exact nofun)
        split at h
        · split at h <;> cases h
          · exact endCheck_sound hin (by decide) ..
          · exact skipBlock_sound hin _
        · cases h
          exact hs
      · cases h
        exact hs
    | interruptMessage v =>
      change execInterruptMessage v s = _ at h
      unfold execInterruptMessage at h
      split at h <;> cases h <;> exact hs
    | imageWriteIssued n => cases h; exact issueImageWrite_sound hs n
    | reportFrameBegin l | reportFrameEnd l | reportClockEdge l bit | frameFirstByteArrival =>
      cases h
      exact hs
    | _ => exact nomatch (show some _ = none from hd)

end

/-- Settles O59: a step runs one command, which keeps the channel sound. -/
theorem stepKeepsChannelSound : Obligations.StepKeepsChannelSound := by
  intro s t hs h
  rcases step_cases h with rfl | ⟨c, rest, -, hc⟩
  · exact hs
  · exact exec_keeps_channel (s := { s with pending := rest }) hc hs

end Sys2Proof.Machine
end

section
/-! PROOF of O48. Which commands write an ordering context (R133, R154): every event but the excluded ones and a
lookup's answer keeps the context, and the answer keeps it valid and moves A_last forward alone. -/

namespace Sys2Proof.Machine

open Sys2Proof

section
variable {c : Instr} {s t : State} {i : RouteIndex} {k : ClassIndex}

@[simp] theorem State.recomputed_contexts (s : State) (r : Route) : (s.recomputed r).contexts = r.contexts := rfl

/-- A route record written with the contexts it has keeps every context. -/
theorem putRoute_context {j : RouteIndex} {x : Route} (h : x.contexts = s.routes[j].contexts) :
    (s.putRoute j x).routes[i].contexts[k] = s.routes[i].contexts[k] := by
  rw [State.putRoute_routes]
  by_cases e : i = j
  · subst e
    rw [table_set_self]
    exact congrArg (·[k]) h
  · rw [table_set_ne _ _ e]

theorem dropFromRoute_context (p : PathIndex) (j : RouteIndex) (s : State) :
    (s.dropFromRoute p j).routes[i].contexts[k] = s.routes[i].contexts[k] := by
  unfold State.dropFromRoute
  dsimp only
  split
  · exact putRoute_context rfl
  · rfl

theorem dropFromRoutes_context (p : PathIndex) (l : List RouteIndex) (s : State) :
    (s.dropFromRoutes p l).routes[i].contexts[k] = s.routes[i].contexts[k] := by
  induction l generalizing s with
  | nil => rfl
  | cons j l ih => exact (ih _).trans (dropFromRoute_context p j s)

theorem mapRoutes_context {f : Route → Route} (h : ∀ r, (f r).contexts[k] = r.contexts[k]) :
    (s.mapRoutes f).routes[i].contexts[k] = s.routes[i].contexts[k] := by
  rw [State.mapRoutes_routes, table_map]
  exact h _

theorem event_keeps_context (he : Event c s t) (hpower : c ≠ .powerOnReset) (hwarm : ∀ source, c ≠ .warmReset source)
    (hsignal : c ≠ .stepSignalRouteTable) (hroute : ∀ image, c ≠ .writeRoute i image)
    (hclass : ∀ image, c ≠ .writeClass k image) (hretire : c ≠ .retireRoute i) (hlookup : c ≠ .lookupComputation) :
    t.routes[i].contexts[k] = s.routes[i].contexts[k] := by
  cases he with
  | same ht => rw [show t.routes = s.routes from congrArg Tables.routes ht]
  | powerOn => exact absurd rfl hpower
  | warm => exact absurd rfl (hwarm _)
  | routeSignal => exact absurd rfl hsignal
  | lookup => exact absurd rfl hlookup
  | retirePath =>
    rw [dropFromRoutes_context, State.emptyPath_routes]
  | mark =>
    refine mapRoutes_context fun r => ?_
    unfold Route.markedBy
    split <;> rfl
  | writeClass =>
    rename_i k' image
    have hne : k ≠ k' := fun e => hclass image (e ▸ rfl)
    exact mapRoutes_context fun r => table_set_ne r.contexts .invalid hne
  | recompute => exact putRoute_context rfl
  | collectRoute => exact putRoute_context rfl
  | writeRoute =>
    rename_i j image _
    have hne : i ≠ j := fun e => hroute image (e ▸ rfl)
    rw [State.putRoute_routes, table_set_ne _ _ hne]
  | retireRoute =>
    rename_i j
    have hne : i ≠ j := fun e => hretire (e ▸ rfl)
    rw [State.putRoute_routes, table_set_ne _ _ hne]
  | advanceHop => simp only [State.advanceHop, State.setHop_routes]
  | _ => simp

/-- An answer leaves a valid context valid, and moves A_last forward alone where the Route Table has taken the current
step epoch (R154). -/
theorem compute_context (q : Lookup) (hv : s.routes[q.site].contexts[k].valid = true) :
    (s.compute q).2.contexts[k].valid = true ∧
      (s.routeTaken = s.time.epoch → s.routes[q.site].contexts[k].last ≤ (s.compute q).2.contexts[k].last) := by
  unfold State.compute
  dsimp only
  split
  · exact ⟨hv, fun _ => BitVec.le_refl _⟩
  · split
    · rw [State.afterOk_eq]
      dsimp only
      split
      · rw [table_set]
        split
        · rename_i hk
          subst hk
          refine ⟨rfl, fun htaken => ?_⟩
          rw [hv, htaken]
          split
          · exact BitVec.le_refl _
          · rename_i hlater
            simp only [Bool.true_and, decide_true, true_and] at hlater
            exact BitVec.le_of_lt (BitVec.not_le.mp hlater)
        · exact ⟨hv, fun _ => BitVec.le_refl _⟩
      · exact ⟨hv, fun _ => BitVec.le_refl _⟩
    · exact ⟨hv, fun _ => BitVec.le_refl _⟩

end

/-- Settles O48: the lookup's answer aside, no event of the remaining commands writes the context. -/
theorem onlyListedEventsInvalidateContexts : Obligations.OnlyListedEventsInvalidateContexts := by
  intro c s t i k h hv hpower hwarm hsignal hroute hclass hretire
  by_cases hlookup : c = .lookupComputation
  · subst hlookup
    change execLookupComputation s = _ at h
    unfold execLookupComputation at h
    split at h <;> cases h
    · rename_i q rest _ _
      rw [State.setSteering_routes, State.setRoute_routes, table_set]
      split
      · rename_i hsite
        subst hsite
        exact compute_context q hv
      · exact ⟨hv, fun _ => BitVec.le_refl _⟩
    · exact ⟨hv, fun _ => BitVec.le_refl _⟩
  · have hkept : t.routes[i].contexts[k] = s.routes[i].contexts[k] :=
      exec_keeps (P := fun u => u.routes[i].contexts[k] = s.routes[i].contexts[k])
        (fun he hu => (event_keeps_context he hpower hwarm hsignal hroute hclass hretire hlookup).trans hu) rfl h
    rw [hkept]
    exact ⟨hv, fun _ => BitVec.le_refl _⟩

end Sys2Proof.Machine
end

section
/-! PROOF of O57, first part. What soundness of the paths, the probe slots and the routes says of one record, and when a
change of the tables keeps it (R56, R57, R97, R100, R116, R124, R125, R131). -/

namespace Sys2Proof.Machine

open Sys2Proof

/-! ### One path record -/

/-- The ranges of the estimate, the counts and the settings (R57, R116). -/
def Path.figuresSound (x : Path) : Prop :=
  x.estimate ≤ Config.estimateMax ∧ x.accepted ≤ Config.steadyCount ∧ x.outlier ≤ Config.outlierLimit ∧
    x.loss ≤ x.config.effectiveLossLimit ∧ x.config.interval.toNat ≤ Config.intervalMax

/-- The probe timer runs exactly while the path is non-vacant with an interval, 1 to 8,000 ms (R97). -/
def Path.timerSound (x : Path) : Prop :=
  (x.timer.isSome ↔ x.body ≠ .vacant ∧ x.config.interval ≠ 0) ∧
    ∀ v, x.timer = some v → 1 ≤ v ∧ v ≤ Config.slowIntervalMax

theorem Path.rangesSound_iff (x : Path) : x.rangesSound ↔ x.figuresSound ∧ x.timerSound := by
  unfold Path.rangesSound Path.figuresSound Path.timerSound
  tauto

theorem intervalMax_le_slow : Config.intervalMax ≤ Config.slowIntervalMax := by decide

theorem slowIntervalMax_pos : 1 ≤ Config.slowIntervalMax := by decide

theorem one_le_toNat {w : Nat} {x : BitVec w} (h : x ≠ 0) : 1 ≤ x.toNat :=
  Nat.one_le_iff_ne_zero.mpr fun e => h (BitVec.eq_of_toNat_eq (by simpa using e))

section
variable {x y : Path} {v : Nat}

theorem Path.vacant_rangesSound (q g : Half) : (Path.vacant q g).rangesSound :=
  (Path.rangesSound_iff _).mpr ⟨⟨Nat.zero_le _, Nat.zero_le _, Nat.zero_le _, Nat.zero_le _, Nat.zero_le _⟩,
    ⟨iff_of_false nofun fun h => h.1 rfl, nofun⟩⟩

theorem clamp_estimate_le (a : Int) : (clamp 0 Config.estimateMax a).toNat ≤ Config.estimateMax := by
  have h := (clamp_bounds (lo := 0) (hi := Config.estimateMax) (by decide) a).2
  omega

theorem sample_le (rtt : Int) (asymmetry : Half) (rate : Nat) : sample rtt asymmetry rate ≤ Config.estimateMax :=
  clamp_estimate_le _

/-- Only the timer, the body and the interval matter to the timer's soundness. -/
theorem Path.timerSound.frame (h : x.timerSound) (ht : y.timer = x.timer) (hb : y.body = x.body)
    (hc : y.config = x.config) : y.timerSound := by
  unfold Path.timerSound
  rw [ht, hb, hc]
  exact h

/-- A first sample, a rejected one and an accepted one leave the figures in range (R114 to R116). -/
theorem Path.figuresSound.filter (h : x.figuresSound) (hv : v ≤ Config.estimateMax) : (x.filter v).figuresSound := by
  obtain ⟨hestimate, haccepted, houtlier, hloss, hinterval⟩ := h
  have hstart : (x.startEstimate v).figuresSound := ⟨hv, Nat.le_add_left 1 7, Nat.zero_le _, hloss, hinterval⟩
  unfold Path.filter
  split
  · exact hstart
  · split
    · unfold Path.rejectSample
      split
      · exact hstart
      · rename_i hlt
        exact ⟨hestimate, haccepted, (not_le.mp hlt).le, hloss, hinterval⟩
    · exact ⟨clamp_estimate_le _, min_le_right _ _, Nat.zero_le _, hloss, hinterval⟩

theorem Path.filter_timer (x : Path) (v : Nat) : (x.filter v).timer = x.timer ∧ (x.filter v).body = x.body ∧
    (x.filter v).config = x.config := by
  unfold Path.filter
  split
  · exact ⟨rfl, rfl, rfl⟩
  · split
    · unfold Path.rejectSample
      split <;> exact ⟨rfl, rfl, rfl⟩
    · exact ⟨rfl, rfl, rfl⟩

/-- Cutting the timer to the interval keeps it at 1 ms or more, since a running timer has an interval (R97). -/
theorem Path.timerSound.cutTimer (h : x.timerSound) : x.cutTimer.timerSound := by
  obtain ⟨hruns, hrange⟩ := h
  refine ⟨?_, fun v hv => ?_⟩
  · unfold Path.cutTimer
    rw [Option.isSome_map]
    exact hruns
  · unfold Path.cutTimer at hv
    obtain ⟨w, hw, rfl⟩ := Option.map_eq_some_iff.mp hv
    have hinterval : x.config.interval ≠ 0 := (hruns.mp (by rw [hw]; rfl)).2
    obtain ⟨hone, hmost⟩ := hrange w hw
    exact ⟨le_min hone (one_le_toNat hinterval), (min_le_left _ _).trans hmost⟩

/-- A matched echo (R110). -/
theorem Path.rangesSound.matched (h : x.rangesSound) {v : Option Nat} (hv : ∀ w, v = some w → w ≤ Config.estimateMax) :
    (x.matched v).rangesSound := by
  have hcounted : ∀ {y : Path}, y.figuresSound → y.timerSound →
      (if x.lost then ({ y with loss := 0, lost := false } : Path).cutTimer
        else { y with loss := 0, lost := false }).rangesSound := by
    intro y hfigures htimer
    obtain ⟨hestimate, haccepted, houtlier, -, hinterval⟩ := hfigures
    have hzeroed : ({ y with loss := 0, lost := false } : Path).figuresSound :=
      ⟨hestimate, haccepted, houtlier, Nat.zero_le _, hinterval⟩
    have htimer' : ({ y with loss := 0, lost := false } : Path).timerSound := htimer
    split
    · exact (Path.rangesSound_iff _).mpr ⟨hzeroed, htimer'.cutTimer⟩
    · exact (Path.rangesSound_iff _).mpr ⟨hzeroed, htimer'⟩
  obtain ⟨hfigures, htimer⟩ := x.rangesSound_iff.mp h
  cases v with
  | none => exact hcounted hfigures htimer
  | some w =>
    obtain ⟨ht, hb, hc⟩ := x.filter_timer w
    exact hcounted (hfigures.filter (hv w rfl)) (htimer.frame ht hb hc)

theorem Path.matched_body (x : Path) (v : Option Nat) : (x.matched v).body = x.body := by
  unfold Path.matched
  cases v with
  | none => cases x.lost <;> rfl
  | some w =>
    have hb := (x.filter_timer w).2.1
    cases x.lost <;> exact hb

/-- A lost probe counts up to the limit (R111). -/
theorem Path.rangesSound.countLoss (h : x.rangesSound) : x.countLoss.rangesSound := by
  obtain ⟨⟨hestimate, haccepted, houtlier, hloss, hinterval⟩, htimer⟩ := x.rangesSound_iff.mp h
  refine (Path.rangesSound_iff _).mpr ⟨⟨hestimate, haccepted, houtlier, ?_, hinterval⟩, htimer⟩
  unfold Path.countLoss
  dsimp only
  split
  · exact Nat.succ_le_of_lt ‹_›
  · exact hloss

end

/-! ### The probe timer -/

section
variable {s : State} {p : PathIndex}

/-- The full interval is loaded exactly where the timer runs, and is 1 to 8,000 ms (R97). -/
theorem fullInterval_timerSound (hinterval : s.paths[p].config.interval.toNat ≤ Config.intervalMax) {y : Path}
    (hb : y.body = s.paths[p].body) (hc : y.config = s.paths[p].config) (ht : y.timer = s.fullInterval p) :
    y.timerSound := by
  unfold Path.timerSound
  rw [hb, hc, ht]
  unfold State.fullInterval Path.nonVacant
  dsimp only
  generalize s.pathUsable 0 p = usable
  generalize s.paths[p] = x at hinterval
  have hslow := intervalMax_le_slow
  have hpos := slowIntervalMax_pos
  by_cases hbody : x.body = .vacant
  · simp [hbody]
  by_cases hzero : x.config.interval = 0
  · simp [hzero]
  have hone := one_le_toNat hzero
  have hne : ¬ x.config.interval.toNat = 0 := Nat.ne_of_gt hone
  simp only [hbody, hne, ne_eq, not_false_eq_true, decide_true, decide_false, Bool.not_true, Bool.or_false,
    Bool.false_eq_true, if_false, hzero, and_self, iff_true]
  split
  · exact ⟨rfl, fun v hv => by cases hv; omega⟩
  · exact ⟨rfl, fun v hv => by cases hv; omega⟩

end

end Sys2Proof.Machine
end

section
/-! PROOF of O57, second part. The tables of paths, probe slots and routes together: what each kind of change keeps of
their soundness, and that every event is one of them. -/

namespace Sys2Proof.Machine

open Sys2Proof

/-- Path records, probe slots and routes are sound together. -/
def State.linksSound (s : State) : Prop := s.pathsSound ∧ s.slotsSound ∧ s.routesSound

/-! ### One record of each table against the others -/

section
variable {s t : State}

theorem bodySound_mono (hh : ∀ i : HopIndex, s.hops[i].state ≠ .vacant → t.hops[i].state ≠ .vacant) {b : PathBody}
    (h : s.bodySound b) : t.bodySound b := by
  cases b with
  | microwave hops =>
    obtain ⟨hpos, hlen, hnodup, hin⟩ := h
    exact ⟨hpos, hlen, hnodup, fun i hi => hh i (hin i hi)⟩
  | _ => exact h

theorem Slot.path?_eq (x : Slot) : x.path? = x.key?.map Prod.fst := by cases x <;> rfl

theorem Path.isMicrowave_congr {x y : Path} (h : y.body = x.body) : y.isMicrowave = x.isMicrowave := by
  unfold Path.isMicrowave
  rw [h]

theorem Path.isFibre_congr {x y : Path} (h : y.body = x.body) : y.isFibre = x.isFibre := by
  unfold Path.isFibre
  rw [h]

theorem Path.body_of_isMicrowave {x : Path} (h : x.isMicrowave = true) : ∃ hops, x.body = .microwave hops := by
  unfold Path.isMicrowave at h
  split at h
  · exact ⟨_, ‹_›⟩
  · cases h

theorem Path.body_of_isFibre {x : Path} (h : x.isFibre = true) : ∃ latency rate, x.body = .fibre latency rate := by
  unfold Path.isFibre at h
  split at h
  · exact ⟨_, _, ‹_›⟩
  · cases h

/-- References move with the kinds of the paths they name. -/
theorem State.referencesSound.mono {r : Route} (h : s.referencesSound r)
    (hc : ∀ p ∈ r.candidates, s.paths[p].isMicrowave = true → t.paths[p].isMicrowave = true)
    (hf : ∀ p, r.fallback = some p → s.paths[p].isFibre = true → t.paths[p].isFibre = true) : t.referencesSound r := by
  obtain ⟨hlen, hnodup, hcandidates, hfallback⟩ := h
  exact ⟨hlen, hnodup, fun p hp => hc p hp (hcandidates p hp), fun p hp => hf p hp (hfallback p hp)⟩

theorem Route.vacant_choiceSound (g : Half) : (Route.vacant g).choiceSound := rfl

theorem Route.vacant_referencesSound (g : Half) : s.referencesSound (Route.vacant g) :=
  ⟨Nat.zero_le _, List.nodup_nil, nofun, nofun⟩

/-- A VACANT record names no path (R125). -/
theorem Route.choiceSound.eq_vacant {r : Route} (h : r.choiceSound) (hv : r.state = .vacant) :
    r = Route.vacant r.generation := by
  unfold Route.choiceSound at h
  rw [hv] at h
  exact h

/-- A recomputed record's state matches its choice (R131). -/
theorem recomputed_choiceSound (s : State) (r : Route) : (s.recomputed r).choiceSound := by
  obtain ⟨best, hbest⟩ : ∃ best, fastest (s.contenders r 0 (max r.refLength.toNat 1)) = best := ⟨_, rfl⟩
  rw [State.recomputed_eq hbest]
  unfold Route.choiceSound
  dsimp only
  cases best with
  | none => rfl
  | some x =>
    cases hx : x.fallback with
    | true =>
      simp only [choiceState, hx, if_true]
      exact ⟨x.path, (fastest_contenders_fallback hbest hx).1, rfl⟩
    | false =>
      simp only [choiceState, hx, Bool.false_eq_true, if_false]
      obtain ⟨i, hi, rfl, -⟩ := fastest_contenders_candidate hbest hx
      exact ⟨_, List.getElem_mem hi, rfl⟩

/-! ### Changes of one table -/

/-- The slots keep their keys or are freed, and what each names is still non-vacant (R100). -/
theorem State.slotsSound.of_keys (h : s.slotsSound)
    (hpath : ∀ (k : SlotIndex) p, t.probe.slots[k].path? = some p → t.paths[p].body ≠ .vacant)
    (hkeys : ∀ k : SlotIndex, t.probe.slots[k].key? = none ∨ t.probe.slots[k].key? = s.probe.slots[k].key?)
    (hleft : ∀ (k : SlotIndex) p q t1 n g, t.probe.slots[k] = .sent p q t1 n g → 1 ≤ n) : t.slotsSound := by
  obtain ⟨-, hunique, -⟩ := h
  refine ⟨hpath, fun j k hjk hj => ?_, hleft⟩
  have hkept : ∀ {i : SlotIndex}, t.probe.slots[i].key?.isSome = true →
      t.probe.slots[i].key? = s.probe.slots[i].key? := by
    intro i hi
    rcases hkeys i with hnone | hsame
    · rw [hnone] at hi
      cases hi
    · exact hsame
  rcases hkeys k with hnone | hsame
  · intro e
    rw [e, hnone] at hj
    cases hj
  · have hj' := hkept hj
    rw [hj'] at hj
    rw [hj', hsame]
    exact hunique j k hjk hj

/-- The same, where the paths that were non-vacant still are. -/
theorem State.slotsSound.of_paths (h : s.slotsSound)
    (hb : ∀ p : PathIndex, s.paths[p].body ≠ .vacant → t.paths[p].body ≠ .vacant)
    (hkeys : ∀ k : SlotIndex, t.probe.slots[k].key? = none ∨ t.probe.slots[k].key? = s.probe.slots[k].key?)
    (hleft : ∀ (k : SlotIndex) p q t1 n g, t.probe.slots[k] = .sent p q t1 n g → 1 ≤ n) : t.slotsSound := by
  refine h.of_keys (fun k p hk => ?_) hkeys hleft
  rw [Slot.path?_eq] at hk
  rcases hkeys k with hnone | hsame
  · rw [hnone] at hk
    cases hk
  · rw [hsame, ← Slot.path?_eq] at hk
    exact hb p (h.1 k p hk)

/-- Routes that stay, over paths that keep their kinds. -/
theorem State.routesSound.of_bodies (h : s.routesSound) (hb : ∀ p : PathIndex, t.paths[p].body = s.paths[p].body)
    (hr : t.routes = s.routes) : t.routesSound := by
  intro i
  rw [hr]
  obtain ⟨hreferences, hchoice⟩ := h i
  exact ⟨hreferences.mono (fun p _ hp => (Path.isMicrowave_congr (hb p)).trans hp)
    fun p _ hp => (Path.isFibre_congr (hb p)).trans hp, hchoice⟩

/-! ### Changes of the state -/

/-- Nothing of the three tables changes, and no hop in service becomes VACANT. -/
theorem State.linksSound.frame (h : s.linksSound)
    (hh : ∀ i : HopIndex, s.hops[i].state ≠ .vacant → t.hops[i].state ≠ .vacant) (hp : t.paths = s.paths)
    (hs : t.probe.slots = s.probe.slots) (hr : t.routes = s.routes) : t.linksSound := by
  obtain ⟨hpaths, hslots, hroutes⟩ := h
  refine ⟨fun p => ?_, ?_, hroutes.of_bodies (fun p => by rw [hp]) hr⟩
  · rw [hp]
    exact ⟨bodySound_mono hh (hpaths p).1, (hpaths p).2⟩
  · unfold State.slotsSound
    rw [hp, hs]
    exact hslots

theorem State.linksSound.congr (h : s.linksSound) (hh : t.hops = s.hops) (hp : t.paths = s.paths)
    (hs : t.probe.slots = s.probe.slots) (hr : t.routes = s.routes) : t.linksSound :=
  h.frame (fun i hi => by rwa [hh]) hp hs hr

/-- A hop record is written and, where it was in service, still is. -/
theorem State.linksSound.putHop (h : s.linksSound) {i : HopIndex} {x : Hop}
    (hx : s.hops[i].state ≠ .vacant → x.state ≠ .vacant) : (s.putHop i x).linksSound := by
  refine h.frame (fun j hj => ?_) (by simp) (by simp) (by simp)
  rw [State.putHop_hops, table_set]
  split
  · rename_i e
    subst e
    exact hx hj
  · exact hj

/-- Slots keep their keys or are freed. -/
theorem State.linksSound.of_slots (h : s.linksSound) (hh : t.hops = s.hops) (hp : t.paths = s.paths)
    (hr : t.routes = s.routes)
    (hkeys : ∀ k : SlotIndex, t.probe.slots[k].key? = none ∨ t.probe.slots[k].key? = s.probe.slots[k].key?)
    (hleft : ∀ (k : SlotIndex) p q t1 n g, t.probe.slots[k] = .sent p q t1 n g → 1 ≤ n) : t.linksSound := by
  obtain ⟨hpaths, hslots, hroutes⟩ := h
  refine ⟨fun p => ?_, hslots.of_paths (fun p hp' => by rwa [hp]) hkeys hleft,
    hroutes.of_bodies (fun p => by rw [hp]) hr⟩
  rw [hp]
  exact ⟨bodySound_mono (fun i hi => by rwa [hh]) (hpaths p).1, (hpaths p).2⟩

/-- One slot is written with its key, or freed. -/
theorem State.linksSound.setSlot (h : s.linksSound) {k : SlotIndex} {x : Slot}
    (hkey : x.key? = none ∨ x.key? = s.probe.slots[k].key?) (hleft : ∀ p q t1 n g, x = .sent p q t1 n g → 1 ≤ n) :
    (s.setSlot k x).linksSound := by
  have hslots : (s.setSlot k x).probe.slots = s.probe.slots.set k x := by
    simp only [State.setSlot, State.setProbe_probe]
  have hsent := h.2.1.2.2
  refine h.of_slots (by simp) (by simp) (by simp) (fun j => ?_) fun j p q t1 n g hj => ?_
  · rw [hslots, table_set]
    split
    · rename_i e
      subst e
      exact hkey
    · exact .inr rfl
  · rw [hslots, table_set] at hj
    split at hj
    · exact hleft _ _ _ _ _ hj
    · exact hsent _ _ _ _ _ _ hj

/-- Slots are freed. -/
theorem State.linksSound.freeSlots (h : s.linksSound) (victim : Slot → Bool) : (s.freeSlots victim).linksSound := by
  have hslot : ∀ k : SlotIndex, (s.freeSlots victim).probe.slots[k] =
      if victim s.probe.slots[k] then .free else s.probe.slots[k] := by
    intro k
    simp only [State.freeSlots, State.setProbe_probe, table_map]
  have hsent := h.2.1.2.2
  refine h.of_slots (by simp) (by simp) (by simp) (fun k => ?_) fun k p q t1 n g hk => ?_
  · rw [hslot]
    split
    · exact .inl rfl
    · exact .inr rfl
  · rw [hslot] at hk
    split at hk
    · cases hk
    · exact hsent _ _ _ _ _ _ hk

/-- A path record is replaced by a sound one of a kind that the routes that name it can bear. -/
theorem State.linksSound.replacePath (h : s.linksSound) {p : PathIndex} {x : Path} (hbody : s.bodySound x.body)
    (hranges : x.rangesSound) (hv : s.paths[p].body ≠ .vacant → x.body ≠ .vacant)
    (hkind : ∀ i : RouteIndex, (p ∈ s.routes[i].candidates → x.isMicrowave = true) ∧
      (s.routes[i].fallback = some p → x.isFibre = true)) : (s.setPath p x).linksSound := by
  obtain ⟨hpaths, hslots, hroutes⟩ := h
  have hpath : ∀ q : PathIndex, (s.setPath p x).paths[q] = if q = p then x else s.paths[q] := by
    intro q
    rw [State.setPath_paths, table_set]
  refine ⟨fun q => ?_, hslots.of_paths (fun q hq => ?_) (fun _ => .inr (by simp)) ?_, fun i => ?_⟩
  · rw [hpath]
    split
    · exact ⟨bodySound_mono (fun i hi => by simpa using hi) hbody, hranges⟩
    · exact ⟨bodySound_mono (fun i hi => by simpa using hi) (hpaths q).1, (hpaths q).2⟩
  · rw [hpath]
    split
    · rename_i e
      subst e
      exact hv hq
    · exact hq
  · rw [State.setPath_probe]
    exact hslots.2.2
  · obtain ⟨hreferences, hchoice⟩ := hroutes i
    rw [State.setPath_routes]
    refine ⟨hreferences.mono (fun q hq hkept => ?_) (fun q hq hkept => ?_), hchoice⟩
    · rw [hpath]
      split
      · rename_i e
        subst e
        exact (hkind i).1 hq
      · exact hkept
    · rw [hpath]
      split
      · rename_i e
        subst e
        exact (hkind i).2 hq
      · exact hkept

/-- A path record is written with its body. -/
theorem State.linksSound.setPath (h : s.linksSound) {p : PathIndex} {x : Path} (hb : x.body = s.paths[p].body)
    (hranges : x.rangesSound) : (s.setPath p x).linksSound := by
  have hpath := h.1 p
  refine h.replacePath (hb ▸ hpath.1) hranges (fun hv => by rwa [hb]) fun i => ?_
  obtain ⟨⟨-, -, hcandidates, hfallback⟩, -⟩ := h.2.2 i
  exact ⟨fun hp => (Path.isMicrowave_congr hb).trans (hcandidates p hp),
    fun hp => (Path.isFibre_congr hb).trans (hfallback p hp)⟩

/-- Routes are written, over the paths as they are. -/
theorem State.linksSound.of_routes (h : s.linksSound) (hh : t.hops = s.hops) (hp : t.paths = s.paths)
    (hs : t.probe.slots = s.probe.slots)
    (hr : ∀ i : RouteIndex, s.referencesSound t.routes[i] ∧ t.routes[i].choiceSound) : t.linksSound := by
  obtain ⟨hpaths, hslots, -⟩ := h
  refine ⟨fun p => ?_, ?_, fun i => ?_⟩
  · rw [hp]
    exact ⟨bodySound_mono (fun i hi => by rwa [hh]) (hpaths p).1, (hpaths p).2⟩
  · unfold State.slotsSound
    rw [hp, hs]
    exact hslots
  · obtain ⟨hreferences, hchoice⟩ := hr i
    exact ⟨hreferences.mono (fun p _ hp' => by rwa [hp]) (fun p _ hp' => by rwa [hp]), hchoice⟩

theorem State.linksSound.putRoute (h : s.linksSound) {i : RouteIndex} {x : Route} (hx : s.referencesSound x)
    (hchoice : x.choiceSound) : (s.putRoute i x).linksSound := by
  refine h.of_routes (by simp) (by simp) (by simp) fun j => ?_
  rw [State.putRoute_routes, table_set]
  split
  · exact ⟨hx, hchoice⟩
  · exact h.2.2 j

/-- Every route is changed, but for its references, its state and its choice; a VACANT one stays. -/
theorem State.linksSound.mapRoutes (h : s.linksSound) {f : Route → Route}
    (hf : ∀ r, (f r).candidates = r.candidates ∧ (f r).fallback = r.fallback ∧ (f r).state = r.state ∧
      (f r).choice = r.choice) (hv : ∀ g, f (Route.vacant g) = Route.vacant g) : (s.mapRoutes f).linksSound := by
  refine h.of_routes (by simp) (by simp) (by simp) fun i => ?_
  rw [State.mapRoutes_routes, table_map]
  obtain ⟨hreferences, hchoice⟩ := h.2.2 i
  obtain ⟨hcandidates, hfallback, hstate, hchosen⟩ := hf s.routes[i]
  refine ⟨?_, ?_⟩
  · unfold State.referencesSound
    rw [hcandidates, hfallback]
    exact hreferences
  · by_cases hvacant : s.routes[i].state = .vacant
    · rw [hchoice.eq_vacant hvacant, hv]
      exact Route.vacant_choiceSound _
    · unfold Route.choiceSound at hchoice ⊢
      rw [hcandidates, hfallback, hstate, hchosen]
      cases hs : s.routes[i].state with
      | vacant => exact absurd hs hvacant
      | _ => simpa only [hs] using hchoice

/-- The tables of another state, between the hops and the routes of this one. -/
theorem State.linksSound.withPathsOf {u : State} (h : u.linksSound) (hh : u.hops = s.hops) (hr : u.routes = s.routes) :
    (s.withPathsOf u).linksSound :=
  h.congr (by simp [hh]) (by simp) (by simp) (by simp [hr])

end

end Sys2Proof.Machine
end

section
/-! PROOF of O57, third part. What an image that passed content validation gives (R67, R68, R137), and what each event
keeps of the links. -/

namespace Sys2Proof.Machine

open Sys2Proof

/-! ### Images that passed content validation -/

/-- No check fails exactly where each one passes. -/
theorem firstFailure_eq_none {l : List (Bool × Cause)} : firstFailure l = none ↔ ∀ c ∈ l, c.1 = false := by
  simp [firstFailure]

/-- Bytes below a table's size name distinct indices. -/
theorem nodup_map_ofNat {n : Nat} [NeZero n] {l : List Byte} (h : l.Nodup) (hlt : ∀ b ∈ l, b.toNat < n) :
    (l.map fun b => Fin.ofNat n b.toNat).Nodup := by
  refine List.Nodup.map_on (fun a ha b hb e => BitVec.eq_of_toNat_eq ?_) h
  have hval := congrArg Fin.val e
  simpa [Fin.ofNat, Nat.mod_eq_of_lt (hlt a ha), Nat.mod_eq_of_lt (hlt b hb)] using hval

theorem PathImage.body_ne_vacant (i : PathImage) : i.body ≠ .vacant := by
  unfold PathImage.body
  split <;> exact nofun

section
variable {s : State}

/-- A valid WRITE-PATH image gives a sound body, an interval in range, and no kind that a route cannot bear (R67,
R68). -/
theorem PathImage.check_sound {i : PathImage} {p : PathIndex} (h : i.check p s = none) :
    s.bodySound i.body ∧ i.interval.toNat ≤ Config.intervalMax ∧ s.kindInUse p i.body = false := by
  have hall := firstFailure_eq_none.mp h
  simp only [PathImage.staticChecks, List.mem_append, List.mem_cons, List.not_mem_nil, or_false] at hall
  have hkind := hall (!decide (i.kind = 1) && !decide (i.kind = 2), .kind) (by simp)
  have hinterval := hall (decide (Config.intervalMax < i.interval.toNat), .interval) (by simp)
  have hcount := hall
    (decide (i.kind = 1) && decide (i.hopCount.toNat = 0 ∨ 12 < i.hopCount.toNat), .hopCount) (by simp)
  have hindex := hall (decide (i.kind = 1) && i.listed.any fun b => decide (63 < b.toNat), .hopIndex) (by simp)
  have hnodup := hall (decide (i.kind = 1) && !decide i.listed.Nodup, .hopDuplicate) (by simp)
  have hservice := hall (i.body.hops.any fun h => !s.hops[h].inService, .hopVacant) (by simp)
  have hrate := hall (decide (i.kind = 2) && decide (i.fibreRate = 0), .fibreRate) (by simp)
  have hinUse := hall (s.kindInUse p i.body, .kindInUse) (by simp)
  refine ⟨?_, not_lt.mp (of_decide_eq_false hinterval), hinUse⟩
  unfold PathImage.body at hservice ⊢
  split
  · rename_i hmicrowave
    simp only [hmicrowave, decide_true, Bool.true_and, Bool.not_eq_false', decide_eq_true_eq] at hcount hindex hnodup
    rw [if_pos hmicrowave] at hservice
    have hcount' := of_decide_eq_false hcount
    have hlength : i.listed.length = i.hopCount.toNat := by
      unfold PathImage.listed
      rw [List.length_take, Vector.length_toList]
      omega
    have hlt : ∀ b ∈ i.listed, b.toNat < 64 := by
      intro b hb
      have := List.any_eq_false.mp hindex b hb
      simp only [decide_eq_true_eq] at this
      omega
    have hmapped : (i.listed.map fun b => (Fin.ofNat 64 b.toNat : HopIndex)).length = i.hopCount.toNat := by
      rw [List.length_map, hlength]
    refine ⟨?_, ?_, nodup_map_ofNat hnodup hlt, fun x hx => ?_⟩
    · omega
    · omega
    · have := List.any_eq_false.mp hservice x hx
      simpa [Hop.inService] using this
  · rename_i hfibre
    simp only [hfibre, decide_false, Bool.not_false, Bool.true_and, Bool.not_eq_false', decide_eq_true_eq] at hkind
    simp only [hkind, decide_true, Bool.true_and] at hrate
    exact of_decide_eq_false hrate

/-- A valid WRITE-ROUTE image gives sound references (R137). -/
theorem RouteImage.check_sound {i : RouteImage} (h : i.check s = none) {r : Route}
    (hc : r.candidates = i.candidateList) (hf : r.fallback = i.fallbackPath) : s.referencesSound r := by
  have hall := firstFailure_eq_none.mp h
  simp only [RouteImage.staticChecks, List.mem_append, List.mem_cons, List.not_mem_nil, or_false] at hall
  have hcount := hall (decide (8 < i.count.toNat), .candidateCount) (by simp)
  have hindex := hall ((i.listed.any fun b => decide (127 < b.toNat)) ||
    decide (i.fallbackPresent = 1 ∧ 127 < i.fallback.toNat), .pathIndex) (by simp)
  have hnodup := hall (!decide i.listed.Nodup, .candidateDuplicate) (by simp)
  have hcandidates := hall (i.candidateList.any fun p => !s.paths[p].isMicrowave, .candidateKind) (by simp)
  have hfallback := hall _ (.inl (.inr (.inr rfl)))
  unfold State.referencesSound
  rw [hc, hf]
  refine ⟨?_, ?_, fun p hp => ?_, fun p hp => ?_⟩
  · unfold RouteImage.candidateList RouteImage.listed
    have := not_lt.mp (of_decide_eq_false hcount)
    rw [List.length_map, List.length_take]
    omega
  · refine nodup_map_ofNat (by simpa using hnodup) fun b hb => ?_
    have := List.any_eq_false.mp (Bool.or_eq_false_iff.mp hindex).1 b hb
    simp only [decide_eq_true_eq] at this
    omega
  · have := List.any_eq_false.mp hcandidates p hp
    simpa using this
  · dsimp only at hfallback
    rw [hp] at hfallback
    simpa using hfallback

end

/-! ### Writes of a path -/

section
variable {s t : State}

theorem PathImage.config_interval (i : PathImage) : i.config.interval = i.interval := rfl

/-- A record that WRITE-PATH leaves: figures in range. -/
theorem Path.renew_figuresSound (x : Path) {i : PathImage} (h : i.interval.toNat ≤ Config.intervalMax) :
    (x.renew i).figuresSound :=
  ⟨Nat.zero_le _, Nat.zero_le _, Nat.zero_le _, Nat.zero_le _, h⟩

theorem Path.rewrite_figuresSound {x : Path} (hx : x.figuresSound) {i : PathImage}
    (h : i.interval.toNat ≤ Config.intervalMax) : (x.rewrite i).figuresSound := by
  obtain ⟨hestimate, haccepted, houtlier, hloss, -⟩ := hx
  refine ⟨hestimate, haccepted, houtlier, ?_, h⟩
  unfold Path.rewrite
  dsimp only
  split
  · exact Nat.zero_le _
  · rename_i hsame
    unfold PathConfig.effectiveLossLimit at hloss ⊢
    rw [not_not.mp hsame]
    exact hloss

theorem State.setPath_setPath (p : PathIndex) (x y : Path) (s : State) :
    (s.setPath p x).setPath p y = s.setPath p y := by
  simp only [State.setPath, table_set_set]

/-- Writing a record and reloading its timer writes the record with the timer. -/
theorem setPath_reloadTimer (p : PathIndex) (x : Path) (s : State) :
    (s.setPath p x).reloadTimer p = s.setPath p { x with timer := (s.setPath p x).fullInterval p } := by
  unfold State.reloadTimer
  rw [State.setPath_setPath, State.setPath_paths, table_set_self]

/-- A record written with the full interval of its own has a sound timer. -/
theorem setPath_timerSound {p : PathIndex} {x : Path} (h : x.config.interval.toNat ≤ Config.intervalMax) :
    ({ x with timer := (s.setPath p x).fullInterval p } : Path).timerSound := by
  have hpath : (s.setPath p x).paths[p] = x := by rw [State.setPath_paths, table_set_self]
  exact fullInterval_timerSound (s := s.setPath p x) (p := p) (hpath.symm ▸ h) (hpath.symm ▸ rfl) (hpath.symm ▸ rfl) rfl

/-- The routes that name a path can bear the kind that a valid image gives it (R68). -/
theorem kinds_of_not_inUse (h : s.routesSound) {p : PathIndex} {b : PathBody} (hb : b ≠ .vacant)
    (hin : s.kindInUse p b = false) {x : Path} (hx : x.body = b) (i : RouteIndex) :
    (p ∈ s.routes[i].candidates → x.isMicrowave = true) ∧ (s.routes[i].fallback = some p → x.isFibre = true) := by
  obtain ⟨⟨-, -, hcandidates, hfallback⟩, hchoice⟩ := h i
  have hnonVacant : p ∈ s.routes[i].candidates ∨ s.routes[i].fallback = some p → s.routes[i].nonVacant = true := by
    intro hnames
    refine Route.nonVacant_iff.mpr fun hv => ?_
    rw [hchoice.eq_vacant hv] at hnames
    rcases hnames with h | h <;> cases h
  have hmem : s.routes[i] ∈ s.routes.toList := Vector.mem_toList_iff.mpr (Vector.getElem_mem i.isLt)
  unfold State.kindInUse at hin
  constructor
  · intro hp
    obtain ⟨hops, hbody⟩ := Path.body_of_isMicrowave (hcandidates p hp)
    rw [hbody] at hin
    cases b with
    | vacant => exact absurd rfl hb
    | microwave => simp only [Path.isMicrowave, hx]
    | fibre =>
      exact absurd (Bool.and_eq_true_iff.mpr ⟨hnonVacant (.inl hp), List.contains_iff_mem.mpr hp⟩)
        (List.any_eq_false.mp hin _ hmem)
  · intro hp
    obtain ⟨latency, rate, hbody⟩ := Path.body_of_isFibre (hfallback p hp)
    rw [hbody] at hin
    cases b with
    | vacant => exact absurd rfl hb
    | microwave =>
      exact absurd (Bool.and_eq_true_iff.mpr ⟨hnonVacant (.inr hp), decide_eq_true hp⟩)
        (List.any_eq_false.mp hin _ hmem)
    | fibre => simp only [Path.isFibre, hx]

theorem sameGeometry_ne_vacant {a b : PathBody} (h : a.sameGeometry b = true) : a ≠ .vacant ∧ b ≠ .vacant := by
  unfold PathBody.sameGeometry at h
  split at h
  · exact ⟨nofun, nofun⟩
  · exact ⟨nofun, nofun⟩
  · cases h

/-- WRITE-PATH of a valid image (R69, R70). -/
theorem applyWritePath_linksSound (h : s.linksSound) {p : PathIndex} {image : PathImage}
    (hi : image.check p s = none) : (applyWritePath p image s).1.linksSound := by
  obtain ⟨hbody, hinterval, hin⟩ := PathImage.check_sound hi
  obtain ⟨hfigures, htimer⟩ := (Path.rangesSound_iff _).mp (h.1 p).2
  have hkinds : ∀ {x : Path}, x.body = image.body → ∀ i : RouteIndex,
      (p ∈ s.routes[i].candidates → x.isMicrowave = true) ∧ (s.routes[i].fallback = some p → x.isFibre = true) :=
    fun hx i => kinds_of_not_inUse h.2.2 (PathImage.body_ne_vacant image) hin hx i
  have hreplace : ∀ {x : Path}, x.body = image.body → x.figuresSound → x.timerSound → (s.setPath p x).linksSound :=
    fun hx hf ht => h.replacePath (hx ▸ hbody) ((Path.rangesSound_iff _).mpr ⟨hf, ht⟩)
      (fun _ => hx ▸ (PathImage.body_ne_vacant image)) (hkinds hx)
  have htriggered : ∀ {u : State}, u.linksSound → (u.trigger (.path p)).linksSound :=
    fun hu => hu.congr rfl rfl rfl rfl
  unfold applyWritePath
  dsimp only
  split
  · rename_i hsame
    have hrewrite := Path.rewrite_figuresSound hfigures hinterval
    refine htriggered ?_
    split
    · rw [setPath_reloadTimer]
      exact hreplace rfl hrewrite (setPath_timerSound hinterval)
    · rename_i hkept
      refine hreplace rfl hrewrite ?_
      obtain ⟨hruns, hrange⟩ := htimer
      have hvacant := sameGeometry_ne_vacant hsame
      refine ⟨hruns.trans ?_, hrange⟩
      have hinterval' : (s.paths[p].rewrite image).config.interval = s.paths[p].config.interval := not_not.mp hkept
      rw [hinterval']
      exact and_congr_left fun _ => iff_of_true hvacant.1 hvacant.2
  · refine htriggered (State.linksSound.freeSlots ?_ _)
    rw [setPath_reloadTimer]
    exact hreplace rfl (Path.renew_figuresSound s.paths[p] hinterval) (setPath_timerSound hinterval)

/-! ### RETIRE-PATH -/

/-- A recomputation reads the paths, the hops, the levels, the profiles and the policies alone. -/
theorem recomputed_congr (hpaths : t.paths = s.paths) (hh : t.hops = s.hops) (hl : t.holds = s.holds)
    (hp : t.profiles = s.profiles) (hc : t.classes = s.classes) : t.recomputed = s.recomputed := by
  have husable : t.pathUsable = s.pathUsable := by
    funext c p
    exact pathUsable_congr c (by rw [hpaths]) (by rw [hpaths]) hh hl hp hc
  have hlatency : t.totalLatency = s.totalLatency := by
    funext p n
    unfold State.totalLatency State.latencyUsed State.nominalLatency
    rw [hpaths, minRate_congr hh hp, hh]
  funext r
  unfold State.recomputed State.contenders
  rw [husable, hlatency, hc]

/-- A route after path `p` was dropped (R71 steps 1, 2 and 5). -/
def State.droppedRoute (s : State) (p : PathIndex) (r : Route) : Route :=
  if r.nonVacant && r.holds p then s.recomputed (r.dropPath p) else r

theorem dropFromRoute_route (p : PathIndex) (s : State) (i j : RouteIndex) :
    (s.dropFromRoute p i).routes[j] = if j = i then s.droppedRoute p s.routes[i] else s.routes[j] := by
  unfold State.dropFromRoute State.droppedRoute
  dsimp only
  by_cases hholds : (s.routes[i].nonVacant && s.routes[i].holds p) = true
  · rw [if_pos hholds, if_pos hholds, State.putRoute_routes, table_set]
  · rw [if_neg hholds, if_neg hholds]
    split
    · rename_i e
      rw [e]
    · rfl

theorem droppedRoute_dropFromRoute (p : PathIndex) (s : State) (i : RouteIndex) :
    (s.dropFromRoute p i).droppedRoute p = s.droppedRoute p := by
  have hframe := s.dropFromRoute_frame p i
  have hkept : (s.dropFromRoute p i).recomputed = s.recomputed := by
    have hpaths := congrArg State.paths hframe
    have hhops := congrArg State.hops hframe
    have hholds := congrArg State.holds hframe
    have hprofiles := congrArg State.profiles hframe
    have hclasses := congrArg State.classes hframe
    exact recomputed_congr hpaths hhops hholds hprofiles hclasses
  funext r
  unfold State.droppedRoute
  rw [hkept]

/-- Every route of the list has dropped the path, once each. -/
theorem dropFromRoutes_route (p : PathIndex) {l : List RouteIndex} (hl : l.Nodup) (s : State) (j : RouteIndex) :
    (s.dropFromRoutes p l).routes[j] = if j ∈ l then s.droppedRoute p s.routes[j] else s.routes[j] := by
  induction l generalizing s with
  | nil => simp only [List.not_mem_nil, if_false]; rfl
  | cons i l ih =>
    obtain ⟨hi, hnodup⟩ := List.nodup_cons.mp hl
    have hstep : (s.dropFromRoutes p (i :: l)) = (s.dropFromRoute p i).dropFromRoutes p l := rfl
    rw [hstep, ih hnodup, droppedRoute_dropFromRoute, dropFromRoute_route]
    by_cases hj : j = i
    · subst hj
      rw [if_neg hi, if_pos rfl, if_pos List.mem_cons_self]
    · rw [if_neg hj]
      simp only [List.mem_cons, hj, false_or]

/-- The route table after RETIRE-PATH. -/
theorem retiredPath_route (p : PathIndex) (s : State) (i : RouteIndex) :
    ((s.emptyPath p).dropFromRoutes p (List.finRange 32)).routes[i] = (s.emptyPath p).droppedRoute p s.routes[i] := by
  rw [dropFromRoutes_route p (List.nodup_finRange 32), if_pos (List.mem_finRange i), State.emptyPath_routes]

theorem Route.dropPath_of_not_holds {r : Route} {p : PathIndex} (h : r.holds p = false) :
    p ∉ r.candidates ∧ r.fallback ≠ some p := by
  simpa [Route.holds] using h

theorem emptyPath_path (p : PathIndex) (s : State) (q : PathIndex) :
    (s.emptyPath p).paths[q] =
      if q = p then Path.vacant s.paths[p].nextSeq (s.paths[p].generation + 1) else s.paths[q] := by
  simp only [State.emptyPath, State.freeSlots_paths, State.setPath_paths, table_set]

theorem emptyPath_slot (p : PathIndex) (s : State) (k : SlotIndex) :
    (s.emptyPath p).probe.slots[k] = if s.probe.slots[k].path? = some p then .free else s.probe.slots[k] := by
  simp only [State.emptyPath, State.freeSlots, State.setProbe_probe, State.setPath_probe, table_map, Slot.names,
    decide_eq_true_eq]

/-- RETIRE-PATH (R71): what stays refers to other paths. -/
theorem retirePath_linksSound (h : s.linksSound) (p : PathIndex) :
    ((s.emptyPath p).dropFromRoutes p (List.finRange 32)).linksSound := by
  obtain ⟨hpaths, hslots, hroutes⟩ := h
  have hpath : ∀ q, q ≠ p → (s.emptyPath p).paths[q] = s.paths[q] := fun q hq => by rw [emptyPath_path, if_neg hq]
  refine ⟨fun q => ?_, ?_, fun i => ?_⟩
  · rw [State.dropFromRoutes_paths, emptyPath_path]
    split
    · exact ⟨trivial, Path.vacant_rangesSound _ _⟩
    · exact ⟨bodySound_mono (fun i hi => by simpa using hi) (hpaths q).1, (hpaths q).2⟩
  · have hslot : ∀ k : SlotIndex, ((s.emptyPath p).dropFromRoutes p (List.finRange 32)).probe.slots[k] =
        if s.probe.slots[k].path? = some p then .free else s.probe.slots[k] := fun k => by
      rw [State.dropFromRoutes_probe, emptyPath_slot]
    refine hslots.of_keys (fun k q hk => ?_) (fun k => ?_) fun k q n t1 m g hk => ?_
    · rw [hslot] at hk
      split at hk
      · cases hk
      · rename_i hother
        have hq : q ≠ p := fun e => hother (e ▸ hk)
        rw [State.dropFromRoutes_paths, hpath q hq]
        exact hslots.1 k q hk
    · rw [hslot]
      split
      · exact .inl rfl
      · exact .inr rfl
    · rw [hslot] at hk
      split at hk
      · cases hk
      · exact hslots.2.2 _ _ _ _ _ _ hk
  · rw [retiredPath_route]
    obtain ⟨hreferences, hchoice⟩ := hroutes i
    have hmono : ∀ {r : Route}, s.referencesSound r → p ∉ r.candidates → r.fallback ≠ some p →
        ((s.emptyPath p).dropFromRoutes p (List.finRange 32)).referencesSound r := by
      intro r hr hc hf
      refine hr.mono (fun q hq hkept => ?_) (fun q hq hkept => ?_)
      · have hne : q ≠ p := fun e => hc (e ▸ hq)
        rw [State.dropFromRoutes_paths, hpath q hne]
        exact hkept
      · have hne : q ≠ p := fun e => hf (e ▸ hq)
        rw [State.dropFromRoutes_paths, hpath q hne]
        exact hkept
    unfold State.droppedRoute
    split
    · refine ⟨?_, recomputed_choiceSound _ _⟩
      obtain ⟨hlen, hnodup, hcandidates, hfallback⟩ := hreferences
      have hdropped : s.referencesSound (s.routes[i].dropPath p) :=
        ⟨(List.length_filter_le _ _).trans hlen, hnodup.filter _, fun q hq => hcandidates q (List.mem_of_mem_filter hq),
          fun q hq => by
            unfold Route.dropPath at hq
            dsimp only at hq
            split at hq
            · cases hq
            · exact hfallback q hq⟩
      have hcandidate : p ∉ (s.routes[i].dropPath p).candidates := fun hp =>
        of_decide_eq_true (List.mem_filter.mp hp).2 rfl
      have hnotFallback : (s.routes[i].dropPath p).fallback ≠ some p := by
        unfold Route.dropPath
        dsimp only
        split
        · exact nofun
        · assumption
      exact hmono (r := (s.emptyPath p).recomputed (s.routes[i].dropPath p)) hdropped hcandidate hnotFallback
    · rename_i hkept
      refine ⟨?_, hchoice⟩
      by_cases hv : s.routes[i].state = .vacant
      · rw [hchoice.eq_vacant hv]
        exact Route.vacant_referencesSound _
      · have hholds : s.routes[i].holds p = false := Bool.eq_false_iff.mpr fun hp =>
          hkept (Bool.and_eq_true_iff.mpr ⟨Route.nonVacant_iff.mpr hv, hp⟩)
        obtain ⟨hc, hf⟩ := Route.dropPath_of_not_holds hholds
        exact hmono hreferences hc hf

end

end Sys2Proof.Machine
end

section
/-! PROOF of O57, fourth part. The ticks, the echoes and the resets, and the step. -/

namespace Sys2Proof.Machine

open Sys2Proof

section
variable {s t : State}

/-! ### The hops -/

theorem Hop.advance_state (x : Hop) (held running : Bool) : (x.advance held running).state = x.state := by
  unfold Hop.advance
  split <;> rfl

theorem Hop.expireClearHold_state (x : Hop) : x.expireClearHold.state = .clear := by
  unfold Hop.expireClearHold
  split <;> rfl

theorem Hop.judgeClass_inService {x : Hop} (h : x.state ≠ .vacant) (c : ReportClass) :
    (x.judgeClass c).state ≠ .vacant := by
  have hcount : x.countBad.state ≠ .vacant := by
    unfold Hop.countBad
    split
    · exact nofun
    · exact h
  unfold Hop.judgeClass
  split <;> first | exact h | exact hcount | exact nofun

/-- A report never takes a hop out of service. -/
theorem reportedHop_inService (i : HopIndex) (r : Report) (stamp : Quad) (h : s.hops[i].state ≠ .vacant) :
    (s.reportedHop i r stamp).state ≠ .vacant := by
  unfold State.reportedHop
  split
  · exact h
  · unfold Hop.judge
    split
    · split
      · exact h
      · exact nofun
    · exact Hop.judgeClass_inService (x := s.hops[i].copyReport r stamp) h _

/-- A hop that no path lists may leave service (R39). -/
theorem retireHop_linksSound (h : s.linksSound) {i : HopIndex} (hi : s.hopListed i = false) (g : Half) :
    (s.putHop i (Hop.vacant g)).linksSound := by
  obtain ⟨hpaths, hslots, hroutes⟩ := h
  have hunlisted : ∀ p : PathIndex, i ∉ s.paths[p].body.hops := by
    intro p hp
    have hmem : s.paths[p] ∈ s.paths.toList := Vector.mem_toList_iff.mpr (Vector.getElem_mem p.isLt)
    exact List.any_eq_false.mp hi _ hmem (List.contains_iff_mem.mpr hp)
  refine ⟨fun p => ?_, ?_, hroutes.of_bodies (fun p => by simp) (by simp)⟩
  · obtain ⟨hbody, hranges⟩ := hpaths p
    rw [State.putHop_paths]
    refine ⟨?_, hranges⟩
    cases hb : s.paths[p].body with
    | microwave hops =>
      have hnot := hunlisted p
      rw [hb] at hbody hnot
      obtain ⟨hpos, hlen, hnodup, hin⟩ := hbody
      refine ⟨hpos, hlen, hnodup, fun j hj => ?_⟩
      have hne : j ≠ i := fun e => hnot (e ▸ hj)
      rw [State.putHop_hops, table_set_ne _ _ hne]
      exact hin j hj
    | _ =>
      rw [hb] at hbody
      exact hbody
  · unfold State.slotsSound
    rw [State.putHop_paths, State.putHop_probe]
    exact hslots

/-! ### What the changes of paths and slots leave -/

theorem applyWritePath_hops (p : PathIndex) (image : PathImage) (s : State) :
    (applyWritePath p image s).1.hops = s.hops := by
  unfold applyWritePath
  dsimp only
  split
  · split <;> rfl
  · rfl

theorem applyWritePath_routes (p : PathIndex) (image : PathImage) (s : State) :
    (applyWritePath p image s).1.routes = s.routes := by
  unfold applyWritePath
  dsimp only
  split
  · split <;> rfl
  · rfl

theorem pathTick_hops (p : PathIndex) (s : State) : (s.takeTick (.path p)).hops = s.hops := by
  have h := congrArg Tables.hops (State.probeTimerExpiry_tables p (s.advancePath p))
  exact h.trans (by simp [State.tables, State.advancePath])

theorem pathTick_routes (p : PathIndex) (s : State) : (s.takeTick (.path p)).routes = s.routes := by
  have h := congrArg Tables.routes (State.probeTimerExpiry_tables p (s.advancePath p))
  exact h.trans (by simp [State.tables, State.advancePath])

theorem slotTick_hops (k : SlotIndex) (s : State) : (s.takeTick (.slot k)).hops = s.hops := by
  have h := congrArg Tables.hops (State.echoTimeout_tables k (s.advanceSlot k))
  exact h.trans (by simp [State.tables, State.advanceSlot])

theorem slotTick_routes (k : SlotIndex) (s : State) : (s.takeTick (.slot k)).routes = s.routes := by
  have h := congrArg Tables.routes (State.echoTimeout_tables k (s.advanceSlot k))
  exact h.trans (by simp [State.tables, State.advanceSlot])

/-! ### The tick at a path (R97, R98) -/

theorem State.advancePath_path (p : PathIndex) (s : State) :
    (s.advancePath p).paths[p] = { s.paths[p] with timer := s.paths[p].timer.map (· - 1) } := by
  rw [State.advancePath, State.setPath_paths, table_set_self]

/-- A slot that takes a key that no other slot holds, of a path that is non-vacant (R98). -/
theorem queueSlot_linksSound (h : s.linksSound) {k : SlotIndex} {p : PathIndex} {q : Half}
    (hp : s.paths[p].body ≠ .vacant) (hq : s.slotHolds p q = false) : (s.setSlot k (.queued p q)).linksSound := by
  obtain ⟨hpaths, ⟨hnamed, hunique, hleft⟩, hroutes⟩ := h
  have hslot : ∀ j : SlotIndex, (s.setSlot k (.queued p q)).probe.slots[j] =
      if j = k then .queued p q else s.probe.slots[j] := by
    intro j
    simp only [State.setSlot, State.setProbe_probe, table_set]
  have hfresh : ∀ j : SlotIndex, s.probe.slots[j].key? ≠ some (p, q) := by
    intro j hj
    have hmem : s.probe.slots[j] ∈ s.probe.slots.toList := Vector.mem_toList_iff.mpr (Vector.getElem_mem j.isLt)
    exact List.any_eq_false.mp hq _ hmem (decide_eq_true hj)
  have hslots : (s.setSlot k (.queued p q)).slotsSound := by
    refine ⟨fun j p' hj => ?_, fun i j hij hi => ?_, fun j p' q' t1 n g hj => ?_⟩
    · rw [hslot] at hj
      rw [State.setSlot_paths]
      split at hj
      · cases hj
        exact hp
      · exact hnamed j p' hj
    · rw [hslot] at hi ⊢
      rw [hslot]
      by_cases hik : i = k
      · subst hik
        rw [if_pos rfl, if_neg fun e => hij e.symm]
        exact fun e => hfresh j e.symm
      · rw [if_neg hik] at hi ⊢
        split
        · exact hfresh i
        · exact hunique i j hij hi
    · rw [hslot] at hj
      split at hj
      · cases hj
      · exact hleft _ _ _ _ _ _ hj
  refine ⟨fun p' => ?_, hslots, hroutes.of_bodies (fun p' => by simp) (by simp)⟩
  rw [State.setSlot_paths]
  exact ⟨bodySound_mono (fun i hi => by simpa using hi) (hpaths p').1, (hpaths p').2⟩

theorem queueProbe_linksSound (h : s.linksSound) {p : PathIndex} (hp : s.paths[p].body ≠ .vacant) :
    (s.queueProbe p).linksSound := by
  have hcounted : ∀ f, (s.countDevice f).linksSound := fun f => h.congr (by simp) (by simp) (by simp) (by simp)
  unfold State.queueProbe
  dsimp only
  split
  · exact h
  · split
    · exact hcounted _
    · rename_i hfree
      split
      · exact hcounted _
      · refine (queueSlot_linksSound h hp (Bool.eq_false_iff.mpr hfree)).setPath ?_ ?_
        · rw [State.setSlot_paths]
        · exact (h.1 p).2

/-- The tick that brings the timer to 0 reloads it and acts on its expiry; any other leaves 1 ms or more. -/
theorem pathTick_linksSound (h : s.linksSound) (p : PathIndex) : (s.takeTick (.path p)).linksSound := by
  change ((s.advancePath p).probeTimerExpiry p).linksSound
  obtain ⟨hfigures, hruns, hrange⟩ := (Path.rangesSound_iff _).mp (h.1 p).2
  have hinterval : s.paths[p].config.interval.toNat ≤ Config.intervalMax := by
    obtain ⟨-, -, -, -, hmax⟩ := hfigures
    exact hmax
  have hadvanced := s.advancePath_path p
  unfold State.probeTimerExpiry
  split
  · rename_i hdue
    rw [hadvanced] at hdue
    simp only [Path.probeDue, Path.nonVacant, Bool.and_eq_true, decide_eq_true_eq] at hdue
    obtain ⟨⟨hbody, -⟩, -⟩ := hdue
    have hreloaded : ((s.advancePath p).reloadTimer p).linksSound := by
      unfold State.advancePath
      rw [setPath_reloadTimer]
      exact h.setPath rfl ((Path.rangesSound_iff _).mpr ⟨hfigures, setPath_timerSound hinterval⟩)
    refine queueProbe_linksSound hreloaded ?_
    rw [State.reloadTimer, State.setPath_paths, table_set_self, hadvanced]
    exact hbody
  · rename_i hdue
    rw [hadvanced] at hdue
    refine h.setPath rfl ((Path.rangesSound_iff _).mpr ⟨hfigures, ?_, fun v hv => ?_⟩)
    · rw [Option.isSome_map]
      exact hruns
    · obtain ⟨w, hw, rfl⟩ := Option.map_eq_some_iff.mp hv
      obtain ⟨hbody, hzero⟩ := hruns.mp (by rw [hw]; rfl)
      obtain ⟨hone, hmost⟩ := hrange w hw
      have hleft : w - 1 ≠ 0 := by
        intro e
        refine hdue ?_
        simp only [Path.probeDue, Path.nonVacant, Bool.and_eq_true, decide_eq_true_eq]
        exact ⟨⟨hbody, hzero⟩, by rw [hw, Option.map_some, e]⟩
      omega

/-! ### The tick at a slot (R111) -/

theorem echoTimeout_linksSound {k : SlotIndex} (h : (s.setSlot k .free).linksSound)
    (hlive : (∀ p q t1 g, s.probe.slots[k] ≠ .sent p q t1 0 g) → s.linksSound) : (s.echoTimeout k).linksSound := by
  unfold State.echoTimeout
  split
  · rename_i p q t1 g hk
    have hcounted : ∀ f, ((s.setSlot k .free).countDevice f).linksSound := fun f =>
      h.congr (by simp) (by simp) (by simp) (by simp)
    dsimp only
    split
    · have hpath := (h.1 p).2
      rw [State.setSlot_paths] at hpath
      have hcounted' : ((s.setSlot k .free).setPath p s.paths[p].countLoss).linksSound :=
        h.setPath (by rw [State.setSlot_paths]; rfl) hpath.countLoss
      exact hcounted'.congr (by simp) (by simp) (by simp) (by simp)
    · exact hcounted _
  · rename_i hnot
    exact hlive hnot

theorem slotTick_linksSound (h : s.linksSound) (k : SlotIndex) : (s.takeTick (.slot k)).linksSound := by
  change ((s.advanceSlot k).echoTimeout k).linksSound
  have hfreed : ((s.advanceSlot k).setSlot k .free).linksSound := by
    have hset : (s.advanceSlot k).setSlot k .free = s.setSlot k .free := by
      simp only [State.advanceSlot, State.setSlot, State.setProbe, table_set_set]
    rw [hset]
    exact h.setSlot (.inl rfl) nofun
  refine echoTimeout_linksSound hfreed fun hlive => ?_
  have hslot : (s.advanceSlot k).probe.slots[k] = s.probe.slots[k].tick := by
    simp only [State.advanceSlot, State.setSlot, State.setProbe_probe, table_set_self]
  rw [hslot] at hlive
  refine h.setSlot (.inr ?_) fun p q t1 n g hn => ?_
  · cases s.probe.slots[k] <;> rfl
  · refine Nat.one_le_iff_ne_zero.mpr fun e => ?_
    subst e
    exact hlive _ _ _ _ hn

/-! ### Probes and echoes -/

theorem matchEcho_linksSound (h : s.linksSound) {k : SlotIndex} (p : PathIndex) (t1 : Quad) (f : ReceivedFrame)
    (t4 : Quad) : (s.matchEcho k p t1 f t4).linksSound := by
  unfold State.matchEcho
  dsimp only
  generalize hv : (if s.minRate s.paths[p].body = 0 then none
    else some (sample (roundTrip t1 f.t2 f.t3 t4) s.paths[p].config.asymmetry (s.minRate s.paths[p].body))) = v
  have hsample : ∀ w, v = some w → w ≤ Config.estimateMax := by
    intro w hw
    subst hw
    split at hv
    · cases hv
    · obtain rfl := Option.some.inj hv
      exact sample_le ..
  have hfreed : (s.setSlot k .free).linksSound := h.setSlot (.inl rfl) nofun
  have hmatched : ((s.setSlot k .free).setPath p (s.paths[p].matched v)).linksSound :=
    hfreed.setPath (by rw [Path.matched_body, State.setSlot_paths]) ((h.1 p).2.matched hsample)
  exact hmatched.congr (by simp) (by simp) (by simp) (by simp)

theorem sendProbe_linksSound (h : s.linksSound) {k : SlotIndex} {p : PathIndex} {q : Half}
    (hk : s.probe.slots[k] = .queued p q) (t1 : Quad) (c : PathConfig) (g : Half) :
    (s.setSlot k (.sent p q t1 c.effectiveEchoTimeout g)).linksSound := by
  refine h.setSlot (.inr (by rw [hk]; rfl)) fun p' q' t1' n g' hn => ?_
  cases hn
  exact one_le_effective _

/-! ### The routes -/

theorem Route.invalidate_vacant (g : Half) : (Route.vacant g).invalidate = Route.vacant g := rfl

theorem Route.forgetClass_vacant (k : ClassIndex) (g : Half) :
    (Route.vacant g).forgetClass k = Route.vacant g := by
  have hcontexts : (Route.vacant g).contexts.set k .invalid = (Route.vacant g).contexts := by
    refine table_ext fun i => ?_
    rw [table_set]
    split
    · exact (Vector.getElem_replicate _).symm
    · rfl
  unfold Route.forgetClass
  rw [hcontexts]
  rfl

theorem marks_vacant (s : State) (w : Trigger) (g : Half) : s.marks w (Route.vacant g) = false := rfl

/-- A route with re-rank needed or attention is non-vacant, and stays sound when the flag is written. -/
theorem setRoute_flags_sound {r x : Route} (h : s.referencesSound r ∧ r.choiceSound) (hv : r.state ≠ .vacant)
    (hc : x.candidates = r.candidates) (hf : x.fallback = r.fallback) (hs : x.state = r.state)
    (hchoice : x.choice = r.choice) : s.referencesSound x ∧ x.choiceSound := by
  obtain ⟨hreferences, hchosen⟩ := h
  refine ⟨?_, ?_⟩
  · unfold State.referencesSound
    rw [hc, hf]
    exact hreferences
  · unfold Route.choiceSound at hchosen ⊢
    rw [hc, hf, hs, hchoice]
    cases hr : r.state with
    | vacant => exact absurd hr hv
    | _ => simpa only [hr] using hchosen

theorem lookup_sound (h : s.routesSound) (q : Lookup) :
    s.referencesSound (s.compute q).2 ∧ (s.compute q).2.choiceSound := by
  unfold State.compute
  dsimp only
  split
  · exact h q.site
  · rename_i hv
    have hnonVacant : s.routes[q.site].state ≠ .vacant := by simpa [Route.nonVacant] using hv
    split
    · exact setRoute_flags_sound (h q.site) hnonVacant rfl rfl rfl rfl
    · exact setRoute_flags_sound (h q.site) hnonVacant rfl rfl rfl rfl

end

theorem recomputed_state_ne_vacant (s : State) (r : Route) : (s.recomputed r).state ≠ .vacant := choiceState_ne_vacant

/-! ### The resets -/

theorem powerOn_linksSound (s : State) : s.powerOn.linksSound := by
  refine ⟨fun p => ?_, ⟨fun k p hk => ?_, fun j k _ hj => ?_, fun k p q t1 n g hk => ?_⟩, fun i => ?_⟩
  · rw [State.powerOn_path]
    exact ⟨trivial, Path.vacant_rangesSound 0 0⟩
  · rw [State.powerOn_slot] at hk
    cases hk
  · rw [State.powerOn_slot] at hj
    cases hj
  · rw [State.powerOn_slot] at hk
    cases hk
  · rw [State.powerOn_route]
    exact ⟨Route.vacant_referencesSound 0, Route.vacant_choiceSound 0⟩

theorem warm_pathsSound {s : State} (h : s.pathsSound) (source : WarmSource) : (s.warm source).pathsSound := by
  intro p
  have hservice : ∀ i : HopIndex, s.hops[i].state ≠ .vacant → (s.warm source).hops[i].state ≠ .vacant := by
    intro i hi
    rw [State.warm_hop]
    unfold Hop.warm
    split
    · exact nofun
    · exact hi
  obtain ⟨hbody, hranges⟩ := h p
  rw [State.warm_path_eq]
  split
  · exact ⟨bodySound_mono hservice hbody, hranges⟩
  · refine ⟨bodySound_mono hservice hbody, ?_⟩
    obtain ⟨⟨hestimate, haccepted, houtlier, -, hinterval⟩, -⟩ := (Path.rangesSound_iff _).mp hranges
    refine (Path.rangesSound_iff _).mpr ⟨⟨hestimate, haccepted, houtlier, Nat.zero_le _, hinterval⟩, ?_⟩
    have hpath : (s.warmBlocks source).paths[p] = s.paths[p].warm := by
      simp only [State.warmBlocks, table_map]
    have hconfig : s.paths[p].warm.config = s.paths[p].config := by
      unfold Path.warm
      split <;> rfl
    exact fullInterval_timerSound (s := s.warmBlocks source) (p := p) (by rw [hpath, hconfig]; exact hinterval)
      (by rw [hpath, Path.warm_body]) (by rw [hpath, hconfig]) rfl

theorem warm_linksSound {s : State} (h : s.linksSound) (source : WarmSource) : (s.warm source).linksSound := by
  obtain ⟨hpaths, -, hroutes⟩ := h
  have hfree : ∀ k : SlotIndex, (s.warm source).probe.slots[k] = .free := by
    intro k
    simp only [State.warm_probe, ProbeEngine.warm, ProbeEngine.initial]
    exact Vector.getElem_replicate _
  have hbodies : ∀ p : PathIndex, (s.warm source).paths[p].body = s.paths[p].body := by
    intro p
    rw [State.warm_path_eq]
    split <;> rfl
  refine ⟨warm_pathsSound hpaths source, ⟨fun k p hk => ?_, fun j k _ hj => ?_, fun k p q t1 n g hk => ?_⟩, fun i => ?_⟩
  · rw [hfree] at hk
    cases hk
  · rw [hfree] at hj
    cases hj
  · rw [hfree] at hk
    cases hk
  · obtain ⟨hreferences, hchoice⟩ := hroutes i
    have hmono : (s.warm source).referencesSound s.routes[i] :=
      hreferences.mono (fun p _ hp => (Path.isMicrowave_congr (hbodies p)).trans hp)
        fun p _ hp => (Path.isFibre_congr (hbodies p)).trans hp
    rw [State.warm_route]
    unfold State.warmRoute
    split
    · exact setRoute_flags_sound (r := (s.warmTables source).recomputed s.routes[i].invalidate)
        ⟨hmono, recomputed_choiceSound _ _⟩ (recomputed_state_ne_vacant _ _) rfl rfl rfl rfl
    · exact ⟨hmono, hchoice⟩

/-! ### The events -/

theorem event_keeps_linksSound {c : Instr} {s t : State} (he : Event c s t) (h : s.linksSound) : t.linksSound := by
  cases he with
  | same ht =>
    exact h.congr (congrArg Tables.hops ht) (congrArg Tables.paths ht) (congrArg Tables.slots ht)
      (congrArg Tables.routes ht)
  | powerOn => exact powerOn_linksSound s
  | warm => exact warm_linksSound h _
  | report i r stamp => exact h.putHop (reportedHop_inService i r stamp)
  | advanceHop i =>
    refine h.frame (fun j hj => ?_) (by simp [State.advanceHop]) (by simp [State.advanceHop])
      (by simp [State.advanceHop])
    rw [State.advanceHop, State.setHop_hops, table_set]
    split
    · rename_i e
      subst e
      exact (Hop.advance_state ..).symm ▸ hj
    · exact hj
  | clearHold => exact h.putHop fun _ => (Hop.expireClearHold_state _).symm ▸ nofun
  | silence => exact h.putHop fun _ => nofun
  | writeHop i x =>
    refine h.putHop fun hi => ?_
    split
    · exact hi
    · exact nofun
  | retireHop hlisted => exact retireHop_linksSound h hlisted _
  | clearHopCounts i | collectHop i => exact h.putHop id
  | placeHold | releaseHold =>
    refine h.frame (fun i hi => ?_) (by simp) (by simp) (by simp)
    rw [State.changeHolds_hop]
    split <;> exact hi
  | writePath hi =>
    exact (applyWritePath_linksSound h hi).withPathsOf (applyWritePath_hops ..)
      (applyWritePath_routes ..)
  | retirePath => exact retirePath_linksSound h _
  | restartEstimate =>
    rename_i p
    obtain ⟨⟨hestimate, -, -, hloss, hinterval⟩, htimer⟩ := (Path.rangesSound_iff _).mp (h.1 p).2
    exact h.setPath rfl ((Path.rangesSound_iff _).mpr
      ⟨⟨hestimate, Nat.zero_le _, Nat.zero_le _, hloss, hinterval⟩, htimer⟩)
  | pathTick p => exact (pathTick_linksSound h p).withPathsOf (pathTick_hops ..) (pathTick_routes ..)
  | slotTick k => exact (slotTick_linksSound h k).withPathsOf (slotTick_hops ..) (slotTick_routes ..)
  | matchEcho hk f t4 =>
    exact (matchEcho_linksSound h _ _ f t4).withPathsOf (by simp [State.matchEcho]) (by simp [State.matchEcho])
  | sendProbe hk t1 => exact sendProbe_linksSound h hk t1 _ _
  | freeSlots => exact h.freeSlots _
  | mark =>
    refine h.mapRoutes (fun r => ?_) fun g => ?_
    · unfold Route.markedBy
      split <;> exact ⟨rfl, rfl, rfl, rfl⟩
    · unfold Route.markedBy
      rw [marks_vacant]
      rfl
  | recompute =>
    rename_i i hmarked
    exact h.putRoute (h.2.2 i).1 (recomputed_choiceSound s _)
  | routeSignal => exact h.mapRoutes (fun _ => ⟨rfl, rfl, rfl, rfl⟩) Route.invalidate_vacant
  | writeClass => exact h.mapRoutes (fun _ => ⟨rfl, rfl, rfl, rfl⟩) (Route.forgetClass_vacant _)
  | collectRoute =>
    rename_i i hattention
    have hv : s.routes[i].state ≠ .vacant := fun hv => by
      rw [(h.2.2 i).2.eq_vacant hv] at hattention
      cases hattention
    obtain ⟨hreferences, hchoice⟩ := setRoute_flags_sound (x := { s.routes[i] with attention := false }) (h.2.2 i) hv
      rfl rfl rfl rfl
    exact h.putRoute hreferences hchoice
  | writeRoute hi =>
    exact h.putRoute (RouteImage.check_sound hi (r := s.recomputed _) rfl rfl) (recomputed_choiceSound s _)
  | retireRoute => exact h.putRoute (Route.vacant_referencesSound _) (Route.vacant_choiceSound _)
  | lookup =>
    rename_i q rest _ _
    obtain ⟨hreferences, hchoice⟩ := lookup_sound h.2.2 q
    refine h.of_routes rfl rfl rfl fun i => ?_
    rw [State.answerHead, State.setSteering_routes, State.setRoute_routes, table_set]
    split
    · exact ⟨hreferences, hchoice⟩
    · exact h.2.2 i
  | _ => exact h.congr (by simp) (by simp) (by simp) (by simp)

/-- Settles O57: by the events a step makes. -/
theorem stepKeepsPathsSlotsAndRoutesSound : Obligations.StepKeepsPathsSlotsAndRoutesSound :=
  fun _ _ hs h => step_keeps (P := State.linksSound) event_keeps_linksSound hs h

end Sys2Proof.Machine
end

section
/-! PROOF of O52, O53, O54, O14. The list engine case by case: what a block that reaches its condition leads to (R176 to
R180), and how the answer of its apply, a read or an image write brings it there. -/

namespace Sys2Proof.Machine

open Sys2Proof

/-! ### Ends and fetches -/

section
variable {s : State} {b : Block} {condition : Condition} {cause : Cause} {address : Quad}

theorem State.endList_eq (kind : EndKind) (s : State) :
    s.endList kind =
      { s with chan :=
          { s.chan with
            state := .ended
            work := .idle
            record := { s.chan.record with endKind := kind }
            pendingIrq := { s.chan.pendingIrq with listEnded := true } } } := rfl

theorem State.endCheck_eq (kind : EndKind) (cause : Cause) (address : Quad) (s : State) :
    s.endCheck kind cause address =
      { s with chan :=
          { s.chan with
            state := .ended
            work := .idle
            record := ⟨kind, cause, address, 0, s.chan.record.executed, .none⟩
            pendingIrq := { s.chan.pendingIrq with listEnded := true } } } := rfl

theorem issueFetch_listLength (h : Config.listLengthMax ≤ s.chan.record.executed) :
    s.issueFetch false address = s.endCheck .sequenceCheck .listLength address := by
  simp [State.issueFetch, h]

theorem issueFetch_noBus {skipped : Bool}
    (h : skipped = true ∨ s.chan.record.executed < Config.listLengthMax) (hbus : s.chan.busMaster = false) :
    s.issueFetch skipped address = s.endCheck .accessCheck .fetch address := by
  rcases h with rfl | h
  · simp [State.issueFetch, hbus]
  · simp [State.issueFetch, hbus, not_le.mpr h]

theorem issueFetch_goes {skipped : Bool}
    (h : skipped = true ∨ s.chan.record.executed < Config.listLengthMax) (hbus : s.chan.busMaster = true) :
    s.issueFetch skipped address =
      s.setChan
        { s.chan with
          work := .fetching s.chan.nextTag address 0 skipped
          nextTag := s.chan.nextTag + 1
          record := if skipped then s.chan.record else { s.chan.record with lastBlock := address } } := by
  rcases h with rfl | h
  · simp [State.issueFetch, hbus]
  · simp [State.issueFetch, hbus, not_le.mpr h]

/-! ### A block's condition -/

/-- The record, the note and the kind of the block (R176 steps 1 to 3, R179). -/
theorem recordCondition_eq (b : Block) (condition : Condition) (cause : Cause) (s : State) :
    s.recordCondition b condition cause =
      s.setChan
        { s.chan with
          work := .idle
          afterJump := decide (b.code = 1)
          progress := if b.flags.getLsbD 4 = true then b.address else s.chan.progress
          record :=
            { s.chan.record with
              lastCondition := condition
              cause := cause
              residual := b.residual
              executed := s.chan.record.executed + 1 }
          pendingIrq :=
            { s.chan.pendingIrq with
              progressNote := s.chan.pendingIrq.progressNote || b.flags.getLsbD 4 } } := by
  unfold State.recordCondition Block.note
  cases b.flags.getLsbD 4 with
  | false => rw [Bool.or_false]; rfl
  | true => rw [Bool.or_true]; rfl

theorem reachCondition_last (h : b.flags.getLsbD 0 = false) :
    s.reachCondition b condition cause = (s.recordCondition b condition cause).endList .normal := by
  simp only [State.reachCondition, Block.chain, h, Bool.not_false, if_true]

theorem reachCondition_halted (h : b.flags.getLsbD 0 = true) (hs : s.chan.state = .halting) :
    s.reachCondition b condition cause = (s.recordCondition b condition cause).endList .halted := by
  simp only [State.reachCondition, Block.chain, h, hs, Bool.not_true, Bool.false_eq_true, if_false, if_true]

theorem reachCondition_skip (h : b.flags.getLsbD 0 = true) (hs : s.chan.state ≠ .halting)
    (hskip : (b.flags.getLsbD 1 && decide (condition = .mismatch)) = true) :
    s.reachCondition b condition cause =
      (s.recordCondition b condition cause).issueFetch true (b.address + 16) := by
  rw [Bool.and_comm] at hskip
  simp only [State.reachCondition, Block.chain, Block.skip, h, hs, hskip, Bool.not_true, Bool.false_eq_true, if_false,
    if_true]

theorem reachCondition_next (h : b.flags.getLsbD 0 = true) (hs : s.chan.state ≠ .halting)
    (hskip : (b.flags.getLsbD 1 && decide (condition = .mismatch)) = false) :
    s.reachCondition b condition cause =
      (s.recordCondition b condition cause).issueFetch false
        (if b.code = 1 then b.dataAddress else b.address + 16) := by
  rw [Bool.and_comm] at hskip
  simp only [State.reachCondition, Block.chain, Block.skip, h, hs, hskip, Bool.not_true, Bool.false_eq_true, if_false,
    Block.nextAddress, Block.isJump, decide_eq_true_eq]

/-- What a condition's record leaves whatever follows it. -/
def Channel.conditionMarks (c : Channel) : Bool × Quad × Bool × Nat :=
  (c.afterJump, c.progress, c.pendingIrq.progressNote, c.record.executed)

theorem issueFetch_conditionMarks (skipped : Bool) (address : Quad) (s : State) :
    (s.issueFetch skipped address).chan.conditionMarks = s.chan.conditionMarks := by
  unfold State.issueFetch
  split
  · rfl
  · split
    · rfl
    · cases skipped <;> rfl

theorem reachCondition_conditionMarks (b : Block) (condition : Condition) (cause : Cause) (s : State) :
    (s.reachCondition b condition cause).chan.conditionMarks =
      (s.recordCondition b condition cause).chan.conditionMarks := by
  unfold State.reachCondition
  dsimp only
  split
  · rfl
  · split
    · rfl
    · split <;> exact issueFetch_conditionMarks ..

end

/-- Settles O52: by CHAIN, HALTING and SKIP, then by the checks of the fetch. -/
theorem conditionChainsSkipsOrEnds : Obligations.ConditionChainsSkipsOrEnds := by
  intro b condition cause s c t note chain skip next record
  have hmarks := reachCondition_conditionMarks b condition cause s
  rw [recordCondition_eq] at hmarks
  obtain ⟨hjump, hmarks⟩ := Prod.mk.inj hmarks
  obtain ⟨hprogress, hmarks⟩ := Prod.mk.inj hmarks
  obtain ⟨hnote, hexecuted⟩ := Prod.mk.inj hmarks
  have hrecorded := recordCondition_eq b condition cause s
  have hbus' : ∀ {x : Bool}, c.busMaster = x → (s.recordCondition b condition cause).chan.busMaster = x :=
    fun hx => by rw [hrecorded]; exact hx
  have hexecuted' : (s.recordCondition b condition cause).chan.record.executed = c.record.executed + 1 := by
    rw [hrecorded]
    rfl
  refine ⟨hjump, hprogress, hnote, hexecuted, fun hc => ?last, fun hc hs => ?halted, fun hc hs hk hbus => ?skipped,
    fun hc hs hk hlen => ?long, fun hc hs hk hlen hbus => ?fetched, fun hc hs hbus hk => ?noBus, ?frame⟩
  case last =>
    have ht : t = _ := reachCondition_last hc
    rw [ht, recordCondition_eq]
    exact ⟨rfl, rfl, rfl, rfl⟩
  case halted =>
    have ht : t = _ := reachCondition_halted hc hs
    rw [ht, recordCondition_eq]
    exact ⟨rfl, rfl, rfl, rfl⟩
  case skipped =>
    have ht : t = _ := reachCondition_skip hc hs hk
    rw [ht, issueFetch_goes (.inl rfl) (hbus' hbus), hrecorded]
    exact ⟨rfl, rfl, rfl⟩
  case long =>
    have ht : t = _ := reachCondition_next hc hs hk
    rw [ht, issueFetch_listLength (hexecuted'.symm ▸ hlen), hrecorded]
    exact ⟨rfl, rfl, rfl, rfl⟩
  case fetched =>
    have ht : t = _ := reachCondition_next hc hs hk
    rw [ht, issueFetch_goes (.inr (hexecuted'.symm ▸ hlen)) (hbus' hbus), hrecorded]
    exact ⟨rfl, rfl, rfl⟩
  case noBus =>
    cases hskip : skip with
    | true =>
      have ht : t = _ := reachCondition_skip hc hs hskip
      rw [ht, issueFetch_noBus (.inl rfl) (hbus' hbus), hrecorded]
      exact ⟨rfl, rfl, rfl, rfl⟩
    | false =>
      have hroom := hk.resolve_left (by rw [hskip]; exact Bool.false_ne_true)
      have ht : t = _ := reachCondition_next hc hs hskip
      rw [ht, issueFetch_noBus (.inr (hexecuted'.symm ▸ hroom)) (hbus' hbus), hrecorded]
      exact ⟨rfl, rfl, rfl, rfl⟩
  case frame => exact (reachCondition_onlyChan s b condition cause).eq_of_chan s.chan

/-! ### The apply of the awaited request (R176) -/

section
variable {s : State} {b : Block} {r : Reply}

theorem finishApply_fault (h : r.condition = .none) :
    s.finishApply b r = s.endCheck .requestCheck r.cause b.address := by
  simp only [State.finishApply, h, if_true]

theorem finishApply_condition (h : r.condition ≠ .none) (hi : r.image = []) :
    s.finishApply b r = s.reachCondition b r.condition r.cause := by
  simp only [State.finishApply, h, hi, List.isEmpty_nil, if_false, if_true]

theorem finishApply_image (h : r.condition ≠ .none) (hi : r.image ≠ []) :
    s.finishApply b r =
      s.setChan { s.chan with work := .writing b (r.image.take b.count.toNat) b.dataAddress } := by
  have hne : r.image.isEmpty = false := List.isEmpty_eq_false_iff.mpr hi
  simp only [State.finishApply, h, hne, if_false, Bool.false_eq_true]

end

/-- With no block waiting, the request is the same apply; with the block waiting, its answer finishes the block. -/
theorem exec_of_waiting {c : Instr} {s : State} {b : Block} (hd : directRequest c = true)
    (hw : s.chan.work = .applying b c) :
    ∃ u, exec c { s with chan := { s.chan with work := .idle } } = .next u ∧
      exec c s = .next (State.finishApply b u.reply { u with chan := { u.chan with work := .applying b c } }) := by
  obtain ⟨⟨t, r⟩, hout⟩ := directApply_isSome hd s
  have hidle : directApply c { s with chan := { s.chan with work := .idle } } =
      some (t.withEngine s.arbiter { s.chan with work := .idle }, r) := by
    have h := directApply_withEngine s.arbiter { s.chan with work := .idle } s c
    rw [hout] at h
    exact h
  have hkept : t.withEngine s.arbiter s.chan = t := by
    have h := directApply_withEngine s.arbiter s.chan s c
    rw [State.withEngine_self, hout] at h
    exact (congrArg Prod.fst (Option.some.inj h)).symm
  have hwork : t.chan.work = .applying b c := by
    rw [← hkept]
    exact hw
  refine ⟨(t.withEngine s.arbiter { s.chan with work := .idle }).setReply r, ?_, ?_⟩
  · rw [exec_of_directApply hidle, settle_other fun b' hb' => by cases (show Work.idle = .applying b' c from hb')]
  · have hwaiting : ({ (t.withEngine s.arbiter { s.chan with work := .idle }).setReply r with
        chan := { ((t.withEngine s.arbiter { s.chan with work := .idle }).setReply r).chan with
          work := .applying b c } } : State) = t.setReply r := by
      rw [← hw]
      exact congrArg (State.setReply r) hkept
    rw [exec_of_directApply hout, settle_waiting hwork, hwaiting]
    rfl

theorem applyAdjustTime_unset {s : State} (v : Quad) (h : s.time.state = .unset) :
    applyAdjustTime v s = (s, .mismatch .timeUnset) := by
  unfold applyAdjustTime
  rw [if_pos h]

/-- Settles O53: the apply commutes with what the channel waits for. -/
theorem applySettlesTheWaitingBlock : Obligations.ApplySettlesTheWaitingBlock := by
  refine ⟨fun c s b hd hw => exec_of_waiting hd hw, fun b r s => ⟨fun h => ?_, finishApply_condition, fun h hi => ?_⟩,
    fun s b => ⟨fun target hw => ?_, fun target hw => ?_, fun v hw hs => ?_, fun hw => ?_, fun image cause hw hi => ?_⟩⟩
  · rw [finishApply_fault h, State.endCheck_eq]
  · rw [finishApply_image h hi]
    rfl
  · rw [exec_of_directApply rfl, settle_waiting hw]
    exact congrArg Host.Outcome.next (finishApply_condition nofun rfl)
  · rw [exec_of_directApply rfl, settle_other hw]
    rfl
  · have happly : directApply (.adjustTime v) s = some (s, .mismatch .timeUnset) := by
      exact congrArg some (applyAdjustTime_unset v hs)
    rw [exec_of_directApply happly, settle_waiting hw]
    exact congrArg Host.Outcome.next (finishApply_condition nofun rfl)
  · rw [exec_of_directApply rfl, settle_waiting hw]
    have himage : s.time.image ≠ [] := List.ne_nil_of_length_pos (by simp [TimeBase.image])
    exact congrArg Host.Outcome.next ((finishApply_image (r := .read s.time.image) nofun himage).trans rfl)
  · have happly : directApply (.writeTiming image) s = some (s, ⟨.none, cause, []⟩) :=
      congrArg some (guarded_fault hi)
    rw [exec_of_directApply happly, settle_waiting hw]
    exact congrArg Host.Outcome.next ((finishApply_fault rfl).trans rfl)

/-! ### The channel's turn at the hop update arbiter (R14) -/

section
variable {s t : State} {b : Block} {c : Instr} {r : Reply}

/-- What a hop request is, whoever presents it: the apply at the record, or the channel's turn (R14). -/
theorem exec_of_hopApply {out : State × Reply} (h : hopApply c s = some out) :
    exec c s = .next (s.hopRequest c out) := by
  cases c <;> first | (obtain rfl := Option.some.inj h; rfl) | exact nomatch (show none = some out from h)

theorem maintenanceTurn_of_waiting (hg : s.granted = some 8) (hw : s.chan.work = .applying b c)
    (ho : hopApply c s = some (t, r)) :
    s.maintenanceTurn = ((t.withEngine 0 s.chan).setReply r).finishApply b r := by
  have hpassed : hopApply c (s.passPointer positionM) = some (t.withEngine 0 s.chan, r) := by
    have h := hopApply_withEngine 0 s.chan s c
    rw [ho] at h
    exact h
  have hawaiting : s.awaiting = some (b, c) := by
    unfold State.awaiting
    rw [hw]
  have hgranted : s.granted = some positionM := hg
  unfold State.maintenanceTurn
  rw [if_pos hgranted, hawaiting]
  dsimp only
  rw [hpassed]

theorem maintenanceTurn_of_other (h : s.granted ≠ some 8) : s.maintenanceTurn = s := by
  unfold State.maintenanceTurn
  exact if_neg h

/-- With no block waiting, the hop request is the same apply; with the block waiting, its turn finishes the block. -/
theorem hopRequest_of_waiting (hg : s.granted = some 8) (hw : s.chan.work = .applying b c)
    (ho : hopApply c s = some (t, r)) :
    ∃ u, exec c { s with chan := { s.chan with work := .idle } } = .next u ∧
      exec .maintenanceTurn s = .next
        (State.finishApply b u.reply { u with arbiter := 0, chan := { u.chan with work := .applying b c } }) := by
  have hidle : hopApply c { s with chan := { s.chan with work := .idle } } =
      some (t.withEngine s.arbiter { s.chan with work := .idle }, r) := by
    have h := hopApply_withEngine s.arbiter { s.chan with work := .idle } s c
    rw [ho] at h
    exact h
  refine ⟨(t.withEngine s.arbiter { s.chan with work := .idle }).setReply r, ?_, ?_⟩
  · rw [exec_of_hopApply hidle, hopRequest_other fun b' hb' => by cases (show Work.idle = .applying b' c from hb')]
  · refine (congrArg Host.Outcome.next (maintenanceTurn_of_waiting hg hw ho)).trans ?_
    rw [← hw]
    rfl

end

/-- CLEAR-HOP-COUNTS leaves the attention flag, so there is nothing to account for (R40). -/
theorem applyClearHopCounts_eq (i : HopIndex) (s : State) :
    applyClearHopCounts i s = (s.setHop i { s.hops[i] with outage := 0, errors := 0 }, .done) := by
  exact Prod.ext (State.putHop_same rfl) rfl

/-- Settles O14: the turn is the apply with the pointer passed, and its answer finishes the block. -/
theorem maintenanceTurnAppliesWaitingRequest : Obligations.MaintenanceTurnAppliesWaitingRequest := by
  intro s b i
  refine ⟨fun hg => ⟨fun hw => ?clear, fun hw => ?read⟩, fun image c hc hw => ?_⟩
  case clear =>
    have hcleared : hopApply (.clearHopCounts i) s =
        some (s.setHop i { s.hops[i] with outage := 0, errors := 0 }, .done) := by
      exact congrArg some (applyClearHopCounts_eq i s)
    refine congrArg Host.Outcome.next ((maintenanceTurn_of_waiting hg hw hcleared).trans ?_)
    rw [finishApply_condition (r := .done) nofun rfl]
    rfl
  case read =>
    have himage : s.hops[i].image ≠ [] := List.ne_nil_of_length_pos (by simp [Hop.image])
    refine congrArg Host.Outcome.next ((maintenanceTurn_of_waiting hg hw (t := s) rfl).trans ?_)
    exact (finishApply_image (r := .read s.hops[i].image) nofun himage).trans rfl
  have happly : ∃ t r, hopApply c s = some (t, r) := by
    simp only [List.mem_cons, List.not_mem_nil, or_false] at hc
    rcases hc with rfl | rfl | rfl | rfl <;> exact ⟨_, _, rfl⟩
  obtain ⟨t, r, ho⟩ := happly
  refine ⟨?_, fun hg => congrArg Host.Outcome.next (maintenanceTurn_of_other hg),
      fun hg => hopRequest_of_waiting hg hw ho⟩
  rw [exec_of_hopApply ho, hopRequest_waiting hw]
  rfl

/-! ### Reads and image writes (R169, R175 to R178) -/

section
variable {s : State} {b : Block}

/-- A tick at the channel that is owed and is the 50th of an outstanding read (R169). -/
theorem busMasterReadTimeout_waits (h : s.ticks.owed .channel = 0 ∨ s.chan.work.reachesTimeout = false) :
    exec .busMasterReadTimeout s = .next s := by
  change Host.Outcome.next _ = _
  rcases h with h | h
  · rw [State.tick_of_none h, ite_self]
  · rw [h]
    rfl

theorem busMasterReadTimeout_isTick (h : s.chan.work.reachesTimeout = true) :
    exec .busMasterReadTimeout s = exec (.millisecondTick .channel) s := by
  change Host.Outcome.next _ = Host.Outcome.next _
  rw [if_pos h]

/-- An outstanding read whose next tick is its 50th fails on that tick, and nothing but the count of ticks moves
beside. -/
theorem busMasterReadTimeout_fails {cause : Cause} {address : Quad} (ho : s.ticks.owed .channel ≠ 0)
    (h : s.chan.work.reachesTimeout = true)
    (hfails : s.advanceChannel.readTimeout = s.advanceChannel.endCheck .accessCheck cause address) :
    exec .busMasterReadTimeout s = exec (.millisecondTick .channel) s ∧
      ∃ u, exec .busMasterReadTimeout s = .next u ∧
        { u with ticks := s.ticks } = s.endCheck .accessCheck cause address := by
  refine ⟨busMasterReadTimeout_isTick h, s.tick .channel, busMasterReadTimeout_isTick h, ?_⟩
  rw [State.tick_effect ho]
  exact hfails

theorem advanceChannel_work (s : State) : s.advanceChannel.chan.work = s.chan.work.tick := rfl

theorem readTimeout_fetching {tag : Nat} {address : Quad} {ticks : Nat} {skipped : Bool}
    (hw : s.chan.work = .fetching tag address ticks skipped) (h : 49 ≤ ticks) :
    s.advanceChannel.readTimeout = s.advanceChannel.endCheck .accessCheck .fetch address := by
  have hwork : s.advanceChannel.chan.work = .fetching tag address (ticks + 1) skipped := by
    rw [advanceChannel_work, hw]
    rfl
  have hlate : Config.readTimeout ≤ ticks + 1 := Nat.succ_le_succ h
  unfold State.readTimeout
  rw [hwork]
  exact if_pos hlate

theorem readTimeout_reading {tag : Nat} {ticks : Nat} (hw : s.chan.work = .reading tag b ticks) (h : 49 ≤ ticks) :
    s.advanceChannel.readTimeout = s.advanceChannel.endCheck .accessCheck .dataRead b.address := by
  have hwork : s.advanceChannel.chan.work = .reading tag b (ticks + 1) := by
    rw [advanceChannel_work, hw]
    rfl
  have hlate : Config.readTimeout ≤ ticks + 1 := Nat.succ_le_succ h
  unfold State.readTimeout
  rw [hwork]
  exact if_pos hlate

theorem reachesTimeout_fetching {tag : Nat} {address : Quad} {ticks : Nat} {skipped : Bool} :
    (Work.fetching tag address ticks skipped).reachesTimeout = decide (49 ≤ ticks) := by
  unfold Work.reachesTimeout
  exact decide_eq_decide.mpr ⟨Nat.le_of_succ_le_succ, Nat.succ_le_succ⟩

theorem reachesTimeout_reading {tag : Nat} {ticks : Nat} :
    (Work.reading tag b ticks).reachesTimeout = decide (49 ≤ ticks) := by
  unfold Work.reachesTimeout
  exact decide_eq_decide.mpr ⟨Nat.le_of_succ_le_succ, Nat.succ_le_succ⟩

/-! #### The data read -/

theorem dataReadComplete_failed {tag : Nat} {ticks : Nat} (hw : s.chan.work = .reading tag b ticks) :
    exec (.dataReadComplete tag none) s = .next (s.endCheck .accessCheck .dataRead b.address) := by
  change execDataReadComplete tag none s = _
  unfold execDataReadComplete
  rw [hw]
  exact if_pos rfl

theorem dataReadComplete_taken {tag : Nat} {ticks : Nat} (hw : s.chan.work = .reading tag b ticks) (d : BitVec 256) :
    exec (.dataReadComplete tag (some d)) s = .next (s.takeData b d) := by
  change execDataReadComplete tag (some d) s = _
  unfold execDataReadComplete
  rw [hw]
  exact if_pos rfl

theorem takeData_action {d : BitVec 256} (h : (catalogueRow b.code).bind (fun row => b.command row.request d) = none) :
    s.takeData b d = s.endCheck .requestCheck .action b.address := by
  unfold State.takeData
  rw [h]

theorem takeData_fault {d : BitVec 256} {row : CatalogueRow} {i : Instr} {cause : Cause}
    (hrow : catalogueRow b.code = some row) (hi : b.command row.request d = some i)
    (hfault : contentFault i s = some cause) : s.takeData b d = s.endCheck .requestCheck cause b.address := by
  unfold State.takeData
  rw [hrow, Option.bind_some, hi]
  dsimp only
  rw [hfault]

theorem takeData_waits {d : BitVec 256} {row : CatalogueRow} {i : Instr} (hrow : catalogueRow b.code = some row)
    (hi : b.command row.request d = some i) (hfault : contentFault i s = none) :
    s.takeData b d = s.setChan { s.chan with work := .applying b i } := by
  unfold State.takeData
  rw [hrow, Option.bind_some, hi]
  dsimp only
  rw [hfault]

/-- A SET-LINE image whose action is none of the three asks for no apply (R3). -/
theorem lineAction_none (l : LineIndex) {a : Byte} (h1 : a ≠ 1) (h2 : a ≠ 2) (h3 : a ≠ 3) : lineAction l a = none := by
  have hne : ∀ n : Nat, n < 256 → a ≠ BitVec.ofNat 8 n → a.toNat ≠ n := fun n hn h e =>
    h (BitVec.eq_of_toNat_eq (by rw [e, BitVec.toNat_ofNat, Nat.mod_eq_of_lt hn]))
  unfold lineAction
  split
  · exact absurd ‹_› (hne 1 (by decide) h1)
  · exact absurd ‹_› (hne 2 (by decide) h2)
  · exact absurd ‹_› (hne 3 (by decide) h3)
  · rfl

/-! #### A skipped block -/

theorem skippedFetchComplete_failed {tag : Nat} {address : Quad} {ticks : Nat}
    (hw : s.chan.work = .fetching tag address ticks true) :
    exec (.skippedBlockFetchComplete tag none) s = .next (s.endCheck .accessCheck .fetch address) := by
  change execSkippedBlockFetchComplete tag none s = _
  unfold execSkippedBlockFetchComplete
  rw [hw]
  exact if_pos rfl

theorem skippedFetchComplete_taken {tag : Nat} {address : Quad} {ticks : Nat}
    (hw : s.chan.work = .fetching tag address ticks true) (w : BitVec 128) :
    exec (.skippedBlockFetchComplete tag (some w)) s = .next (s.skipBlock (parseBlock address w)) := by
  change execSkippedBlockFetchComplete tag (some w) s = _
  unfold execSkippedBlockFetchComplete
  rw [hw]
  exact if_pos rfl

theorem parseBlock_chain (address : Quad) (w : BitVec 128) : (parseBlock address w).chain = w.getLsbD 8 := by
  simp [Block.chain, parseBlock, leField]

theorem skipBlock_last (h : b.chain = false) : s.skipBlock b = (s.recordSkip b.address).endList .normal := by
  simp only [State.skipBlock, h, Bool.not_false, if_true]

theorem skipBlock_halted (h : b.chain = true) (hs : s.chan.state = .halting) :
    s.skipBlock b = (s.recordSkip b.address).endList .halted := by
  simp only [State.skipBlock, h, hs, Bool.not_true, Bool.false_eq_true, if_false, if_true]

theorem skipBlock_next (h : b.chain = true) (hs : s.chan.state ≠ .halting) :
    s.skipBlock b = (s.recordSkip b.address).issueFetch false (b.address + 16) := by
  simp only [State.skipBlock, h, hs, Bool.not_true, Bool.false_eq_true, if_false]

/-! #### An image write -/

section
variable {left : List Byte} {next : Quad} {n : Nat}

theorem issueImageWrite_noBus (hw : s.chan.work = .writing b left next) (hn : n ≠ 0)
    (hbus : s.chan.busMaster = false) :
    s.issueImageWrite n = s.endCheck .accessCheck .dataWrite b.address := by
  simp only [State.issueImageWrite, hw, hn, hbus, if_false, Bool.not_false, if_true]

theorem issueImageWrite_more (hw : s.chan.work = .writing b left next) (hn : n ≠ 0)
    (hbus : s.chan.busMaster = true) (hmore : n < left.length) :
    s.issueImageWrite n =
      { s with
        sent := s.sent ++ [.hostWrite next (left.take n)]
        chan := { s.chan with work := .writing b (left.drop n) (next + BitVec.ofNat 64 n) } } := by
  simp only [State.issueImageWrite, hw, hn, hbus, if_false, Bool.not_true, Bool.false_eq_true, not_le.mpr hmore,
    State.emit, State.setChan]

theorem issueImageWrite_last (hw : s.chan.work = .writing b left next) (hn : n ≠ 0)
    (hbus : s.chan.busMaster = true) (hlast : left.length ≤ n) :
    s.issueImageWrite n =
      ({ s with sent := s.sent ++ [.hostWrite next left] } : State).reachCondition b .done .none := by
  simp only [State.issueImageWrite, hw, hn, hbus, if_false, Bool.not_true, Bool.false_eq_true, hlast, if_true,
    State.emit, List.take_of_length_le hlast]

end

end

/-- Settles O54: the completion of each read, the tick that ends it, and each posted write of an image. -/
theorem readsAndImageWritesGoOnWithTheBlock : Obligations.ReadsAndImageWritesGoOnWithTheBlock := by
  intro s c ended ends timesOut
  have hnext : ∀ {t u : State}, t = u → Host.Outcome.next (φ := Fault) (ρ := Refusal) t = .next u :=
    fun h => congrArg Host.Outcome.next h
  refine ⟨fun tag b ticks hw => ⟨dataReadComplete_failed hw, fun ho hlate => ?_, fun h => ?_,
      fun d hcode h1 h2 h3 => ?_,
      fun d row i hrow hi => ⟨fun cause hfault => ?_, fun hfault => ?_⟩⟩,
    fun tag address ticks hw => ⟨skippedFetchComplete_failed hw, ?skipped⟩,
    fun tag address ticks skipped hw => ⟨fun ho hlate => ?_, fun h => ?_⟩,
    fun b left next n hw hn => ⟨fun hbus => ?_, fun hbus hmore => ?_, fun hbus hlast => ?_⟩⟩
  · exact busMasterReadTimeout_fails ho (by rw [hw, reachesTimeout_reading]; exact decide_eq_true hlate)
      (readTimeout_reading hw hlate)
  · exact busMasterReadTimeout_waits
      (h.imp_right fun h => by rw [hw, reachesTimeout_reading]; exact decide_eq_false (not_le.mpr h))
  · rw [dataReadComplete_taken hw]
    refine hnext (takeData_action ?_)
    rw [hcode, show catalogueRow 0x70 = some ⟨0x70, .setLine, .write, 7, 8⟩ from rfl, Option.bind_some]
    exact lineAction_none _ h1 h2 h3
  · rw [dataReadComplete_taken hw]
    exact hnext (takeData_fault hrow hi hfault)
  · rw [dataReadComplete_taken hw]
    exact hnext (takeData_waits hrow hi hfault)
  case skipped =>
    intro w record finished
    refine ⟨fun hc => ?_, fun hc hs => ?_, fun hc hs hbus hlen => ?_, fun hc hs hlen => ?_, fun hc hs hbus hlen => ?_⟩
    · rw [skippedFetchComplete_taken hw, skipBlock_last ((parseBlock_chain address w).trans hc)]
      rfl
    · rw [skippedFetchComplete_taken hw, skipBlock_halted ((parseBlock_chain address w).trans hc) hs]
      rfl
    · rw [skippedFetchComplete_taken hw, skipBlock_next ((parseBlock_chain address w).trans hc) hs]
      exact hnext (issueFetch_goes (s := s.recordSkip address) (.inr hlen) hbus)
    · rw [skippedFetchComplete_taken hw, skipBlock_next ((parseBlock_chain address w).trans hc) hs]
      exact hnext (issueFetch_listLength (s := s.recordSkip address) hlen)
    · rw [skippedFetchComplete_taken hw, skipBlock_next ((parseBlock_chain address w).trans hc) hs]
      exact hnext (issueFetch_noBus (s := s.recordSkip address) (.inr hlen) hbus)
  · exact busMasterReadTimeout_fails ho (by rw [hw, reachesTimeout_fetching]; exact decide_eq_true hlate)
      (readTimeout_fetching hw hlate)
  · exact busMasterReadTimeout_waits
      (h.imp_right fun h => by rw [hw, reachesTimeout_fetching]; exact decide_eq_false (not_le.mpr h))
  · exact hnext (issueImageWrite_noBus hw hn hbus)
  · exact hnext (issueImageWrite_more hw hn hbus hmore)
  · exact hnext (issueImageWrite_last hw hn hbus hlast)

end Sys2Proof.Machine
end

section
/-! PROOF of O49 and O50. The channel's window, its configuration writes (R162 to R167, R181, R188, R189), and the
interrupt messages (R168). -/

namespace Sys2Proof.Machine

open Sys2Proof

/-! ### Interrupt messages -/

theorem VectorFlags.get_put (f : VectorFlags) (v w : IrqVector) (x : Bool) :
    (f.put v x).get w = if w = v then x else f.get w := by
  cases v <;> cases w <;> rfl

/-- Settles O50: the flag is cleared in the event that sends the message. -/
theorem interruptMessageIsSentWhenUnmasked : Obligations.InterruptMessageIsSentWhenUnmasked := by
  intro v s
  refine ⟨fun hp hm hk => ?_, fun h => ?_⟩
  · refine ⟨_, if_pos (by rw [hp, hm, hk]; rfl), rfl, fun w => VectorFlags.get_put .., rfl⟩
  · refine if_neg fun hall => ?_
    simp only [Bool.and_eq_true, Bool.not_eq_true'] at hall
    obtain ⟨⟨hp, hm⟩, hk⟩ := hall
    rcases h with h | h | h
    · exact Bool.false_ne_true (h.symm.trans hp)
    · exact Bool.false_ne_true (h.symm.trans hm)
    · exact Bool.false_ne_true (hk.symm.trans h)

/-! ### Control commands -/

section
variable {s : State}

theorem startList_idle (h : s.chan.state = .idle) (ha : s.chan.listAddress.toNat % 16 = 0) :
    s.startList =
      (s.setChan { s.chan with
        state := .running, refusedStart := false, record := .zero, progress := 0, afterJump := false }).issueFetch false
        s.chan.listAddress := by
  unfold State.startList
  rw [if_pos h]
  exact if_pos ha

theorem startList_unaligned (h : s.chan.state = .idle) (ha : s.chan.listAddress.toNat % 16 ≠ 0) :
    s.startList =
      (s.setChan { s.chan with
        state := .running, refusedStart := false, record := .zero, progress := 0, afterJump := false }).endCheck
        .requestCheck .alignment s.chan.listAddress := by
  unfold State.startList
  rw [if_pos h]
  exact if_neg ha

theorem startList_refused (h : s.chan.state ≠ .idle) :
    s.startList = { s with chan := { s.chan with refusedStart := true } } := by
  unfold State.startList
  exact if_neg h

theorem haltList_eq (s : State) :
    s.haltList =
      { s with chan := { s.chan with state := if s.chan.state = .running then .halting else s.chan.state } } := by
  unfold State.haltList
  split <;> rfl

theorem ackList_eq (s : State) :
    s.ackList = { s with chan := { s.chan with state := if s.chan.state = .ended then .idle else s.chan.state } } := by
  unfold State.ackList
  split <;> rfl

/-! ### Window writes -/

/-- A write to a word that no write reaches (R162). -/
theorem writeWord_readOnly {offset : Nat} (h0 : offset ≠ 0) (h4 : offset ≠ 4) (h8 : offset ≠ 8) (v : BitVec 32) :
    s.writeWord offset v = s := by
  unfold State.writeWord
  split
  · exact absurd rfl h0
  · exact absurd rfl h4
  · exact absurd rfl h8
  · rfl

theorem windowWrite_four {offset : Nat} (h : offset % 4 = 0) (v : Quad) :
    exec (.windowWrite offset 4 v) s = .next (s.writeWord offset (v.extractLsb' 0 32)) := by
  change execWindowWrite offset 4 v s = _
  unfold execWindowWrite
  exact if_pos (by rw [h]; rfl)

theorem windowWrite_eight {offset : Nat} (h : offset % 8 = 0) (v : Quad) :
    exec (.windowWrite offset 8 v) s =
      .next ((s.writeWord offset (v.extractLsb' 0 32)).writeWord (offset + 4) (v.extractLsb' 32 32)) := by
  change execWindowWrite offset 8 v s = _
  unfold execWindowWrite
  rw [if_neg (by simp), if_pos (by rw [h]; rfl)]

theorem windowWrite_other {offset size : Nat} (h4 : ¬ (size = 4 ∧ (offset = 0 ∨ offset = 4 ∨ offset = 8)))
    (h8 : ¬ (size = 8 ∧ (offset = 0 ∨ offset = 8))) (v : Quad) : exec (.windowWrite offset size v) s = .next s := by
  by_cases hfour : size = 4 ∧ offset % 4 = 0
  · obtain ⟨rfl, hoffset⟩ := hfour
    have hne : offset ≠ 0 ∧ offset ≠ 4 ∧ offset ≠ 8 := by omega
    rw [windowWrite_four hoffset, writeWord_readOnly hne.1 hne.2.1 hne.2.2]
  by_cases height : size = 8 ∧ offset % 8 = 0
  · obtain ⟨rfl, hoffset⟩ := height
    have hne : offset ≠ 0 ∧ offset ≠ 4 ∧ offset ≠ 8 ∧ offset + 4 ≠ 0 ∧ offset + 4 ≠ 4 ∧ offset + 4 ≠ 8 := by omega
    obtain ⟨h0, hf, he, h0', hf', he'⟩ := hne
    rw [windowWrite_eight hoffset, writeWord_readOnly h0 hf he, writeWord_readOnly h0' hf' he']
  · change execWindowWrite offset size v s = _
    unfold execWindowWrite
    rw [if_neg (by simpa using hfour), if_neg (by simpa using height)]

theorem exec_control (v : Quad) :
    exec (.windowWrite 8 4 v) s = .next (s.control (v.extractLsb' 0 32)) := windowWrite_four (by decide) v

/-! ### Window reads -/

theorem toNat_append_eq {m n : Nat} (x : BitVec m) (y : BitVec n) : (x ++ y).toNat = x.toNat * 2 ^ n + y.toNat := by
  rw [BitVec.toNat_append, ← Nat.shiftLeft_add_eq_or_of_lt y.isLt, Nat.shiftLeft_eq]

/-- A quad is its two halves. -/
theorem halves_append (x : Quad) : x.extractLsb' 32 32 ++ x.extractLsb' 0 32 = x := by
  refine BitVec.eq_of_toNat_eq ?_
  rw [toNat_append_eq, BitVec.extractLsb'_toNat, BitVec.extractLsb'_toNat]
  have hx := x.isLt
  simp only [Nat.shiftRight_eq_div_pow, pow_zero, Nat.div_one]
  omega

theorem append_low (x y : BitVec 32) : (x ++ y).extractLsb' 0 32 = y := by
  refine BitVec.eq_of_toNat_eq ?_
  have hy := y.isLt
  rw [BitVec.extractLsb'_toNat, toNat_append_eq]
  simp only [Nat.shiftRight_eq_div_pow, pow_zero, Nat.div_one]
  omega

theorem append_high (x y : BitVec 32) : (x ++ y).extractLsb' 32 32 = x := by
  refine BitVec.eq_of_toNat_eq ?_
  have hx := x.isLt
  have hy := y.isLt
  rw [BitVec.extractLsb'_toNat, toNat_append_eq]
  simp only [Nat.shiftRight_eq_div_pow]
  omega

theorem Channel.statusWord_toNat (c : Channel) :
    c.statusWord.toNat = c.state.code.toNat + if c.refusedStart then 256 else 0 := by
  unfold Channel.statusWord
  rw [toNat_append_eq, toNat_append_eq]
  cases c.refusedStart
  · exact Nat.zero_add _
  · exact Nat.add_comm 256 _

theorem Completion.word_toNat (x : Completion) :
    x.word.toNat = x.endKind.code.toNat + 256 * x.cause.byte.toNat + 65536 * x.lastCondition.code.toNat := by
  unfold Completion.word
  rw [toNat_append_eq, toNat_append_eq, toNat_append_eq, show (0 : BitVec 8).toNat = 0 from rfl]
  omega

theorem Completion.counts_toNat (x : Completion) :
    x.counts.toNat = x.residual.toNat + 65536 * (x.executed % 65536) := by
  unfold Completion.counts
  rw [toNat_append_eq, BitVec.toNat_ofNat]
  omega

theorem windowRead_four {offset : Nat} (h : offset % 4 = 0) :
    s.windowRead offset 4 = (s.windowWord offset).setWidth 64 := by
  unfold State.windowRead
  exact if_pos (by rw [h]; rfl)

theorem windowRead_eight {offset : Nat} (h : offset % 8 = 0) :
    s.windowRead offset 8 = s.windowWord (offset + 4) ++ s.windowWord offset := by
  unfold State.windowRead
  rw [if_neg (by simp), if_pos (by rw [h]; rfl)]

theorem windowRead_other {offset size : Nat} (h4 : ¬ (size = 4 ∧ offset % 4 = 0)) (h8 : ¬ (size = 8 ∧ offset % 8 = 0)) :
    s.windowRead offset size = 0 := by
  unfold State.windowRead
  rw [if_neg (by simpa using h4), if_neg (by simpa using h8)]

theorem windowWord_beyond {offset : Nat} (h : 0x38 ≤ offset) : s.windowWord offset = 0 := by
  unfold State.windowWord
  split <;> first | rfl | omega

theorem windowRead_beyond {offset : Nat} (h : 0x38 ≤ offset) (size : Nat) : s.windowRead offset size = 0 := by
  unfold State.windowRead
  rw [windowWord_beyond h, windowWord_beyond (h.trans (Nat.le_add_right _ 4))]
  split
  · rfl
  · split <;> rfl

end

/-- Settles O49: command by command and word by word. -/
theorem channelTakesWindowAndConfigurationAccesses : Obligations.ChannelTakesWindowAndConfigurationAccesses := by
  refine ⟨by decide, fun s => ?_⟩
  intro c stateCode endCode conditionCode timeCode ended
  have hnext : ∀ {t u : State}, t = u → Host.Outcome.next (φ := Fault) (ρ := Refusal) t = .next u :=
    fun h => congrArg Host.Outcome.next h
  have hstate : c.state.code.toNat = stateCode := by
    dsimp only [stateCode]
    cases c.state <;> rfl
  have hend : c.record.endKind.code.toNat = endCode := by
    dsimp only [endCode]
    cases c.record.endKind <;> rfl
  have hcondition : c.record.lastCondition.code.toNat = conditionCode := by
    dsimp only [conditionCode]
    cases c.record.lastCondition <;> rfl
  have htime : s.time.state.code.toNat = timeCode := by
    dsimp only [timeCode]
    cases s.time.state <;> rfl
  refine ⟨fun hs ha hbus => hnext ?_, fun hs ha hbus => hnext ?_, fun hs ha => hnext (startList_unaligned hs ha),
    fun hs => hnext (startList_refused hs), hnext (haltList_eq s), hnext (ackList_eq s), rfl,
    fun v => ⟨?_, ?_, ?_, ?_, ?_, fun offset size h4 h8 => windowWrite_other h4 h8 v⟩,
    ⟨?_, ?_, ?_, ?_, ?_, ?_, ?_, fun offset size => ⟨?_, windowRead_other, fun h => windowRead_beyond h size⟩⟩,
    fun on => ⟨rfl, rfl⟩, fun v on => ⟨_, rfl, fun w => VectorFlags.get_put .., rfl⟩⟩
  · rw [startList_idle hs ha]
    exact issueFetch_goes (.inr (Nat.zero_lt_succ _)) hbus
  · rw [startList_idle hs ha]
    exact issueFetch_noBus (.inr (Nat.zero_lt_succ _)) hbus
  · rw [windowWrite_eight (by decide)]
    refine hnext ?_
    change s.setChan { c with
      listAddress :=
        v.extractLsb' 32 32 ++ (c.listAddress.extractLsb' 32 32 ++ v.extractLsb' 0 32).extractLsb' 0 32 } = _
    rw [append_low, halves_append]
    rfl
  · exact windowWrite_four (by decide) v
  · exact windowWrite_four (by decide) v
  · rw [exec_control]
    unfold State.control
    generalize (v.extractLsb' 0 32).toNat = n
    rcases n with _ | _ | _ | _ | _ | n <;> rfl
  · rw [exec_control, windowWrite_eight (by decide)]
    exact hnext (writeWord_readOnly (by decide) (by decide) (by decide) _)
  · rw [windowRead_eight (by decide)]
    exact halves_append _
  · rw [windowRead_eight (by decide)]
    exact (by decide : (0 : BitVec 32) ++ (0 : BitVec 32) = (0 : BitVec 64))
  · rw [windowRead_eight (by decide)]
    change ((0 : BitVec 32) ++ c.statusWord).toNat = _
    rw [toNat_append_eq, Channel.statusWord_toNat, hstate]
    exact Nat.zero_add _
  · rw [windowRead_eight (by decide)]
    exact halves_append _
  · rw [windowRead_eight (by decide)]
    change (c.record.counts ++ c.record.word).toNat = _
    rw [toNat_append_eq, Completion.counts_toNat, Completion.word_toNat, hend, hcondition]
    omega
  · rw [windowRead_eight (by decide)]
    exact halves_append _
  · rw [windowRead_eight (by decide)]
    change (s.time.state.code.setWidth 32 ++ BitVec.ofNat 32 s.attentionCount).toNat = _
    rw [toNat_append_eq, BitVec.toNat_setWidth, BitVec.toNat_ofNat, htime]
    have hcode : timeCode < 256 := htime ▸ s.time.state.code.isLt
    omega
  · rintro - h
    rw [windowRead_four (by omega), windowRead_four (by omega), windowRead_eight h, append_low, append_high]
    exact ⟨rfl, rfl⟩

end Sys2Proof.Machine
end

section
/-! PROOF of O51. A fetched block: the request that its fields spell (R186, R187, R191, R192), and the checks in their
order (R171 to R175). -/

namespace Sys2Proof.Machine

open Sys2Proof

/-! ### The request that a block spells -/

/-- An index within a table names its record. -/
theorem ofNat_eq_of_val {n : Nat} [NeZero n] {i : Nat} {x : Fin n} (h : i = x.val) : Fin.ofNat n i = x := by
  subst h
  exact Fin.ext (Nat.mod_eq_of_lt x.isLt)

theorem tabulate_congr {α : Type} {n : Nat} {f g : Fin n → α} (h : ∀ i, f i = g i) : tabulate n f = Vector.ofFn g :=
  congrArg Vector.ofFn (funext h)

theorem checkedIndex_zeroOption (b : Block) {r : Request} (h : r.hasZeroOption = true) :
    b.checkedIndex r = b.index.toNat % 32768 := by
  unfold Block.checkedIndex
  rw [if_pos h, BitVec.extractLsb'_toNat]
  rfl

theorem checkedIndex_plain (b : Block) {r : Request} (h : r.hasZeroOption = false) :
    b.checkedIndex r = b.index.toNat := by
  unfold Block.checkedIndex
  rw [h]
  exact if_neg Bool.false_ne_true

theorem lineAction_eq (l : LineIndex) (a : Byte) :
    lineAction l a =
      if a = 1 then some (.run l) else if a = 2 then some (.suspend l) else if a = 3 then some (.stop l) else none := by
  split
  · rename_i h
    rw [h]
    rfl
  · split
    · rename_i h
      rw [h]
      rfl
    · split
      · rename_i h
        rw [h]
        rfl
      · exact lineAction_none l ‹_› ‹_› ‹_›

theorem parsePathImage_eq (d : BitVec 256) :
    parsePathImage d =
      ⟨d.extractLsb' 0 8, d.extractLsb' 8 8, d.extractLsb' 16 8, d.extractLsb' 24 8, d.extractLsb' 32 16,
        d.extractLsb' 48 16, d.extractLsb' 64 8, d.extractLsb' 72 8, d.extractLsb' 80 8,
        d.extractLsb' 96 16, d.extractLsb' 112 16, d.extractLsb' 128 32,
        Vector.ofFn fun j => d.extractLsb' (160 + 8 * j.val) 8⟩ := by
  have hhops : (parsePathImage d).hops = Vector.ofFn fun j : Fin 12 => d.extractLsb' (160 + 8 * j.val) 8 :=
    tabulate_congr fun j => congrArg (fun k => d.extractLsb' k 8) (by omega)
  rw [← hhops]
  rfl

theorem parseRouteImage_eq (d : BitVec 256) :
    parseRouteImage d =
      ⟨d.extractLsb' 0 8, d.extractLsb' 8 8, d.extractLsb' 16 16, d.extractLsb' 32 8,
        Vector.ofFn fun j => d.extractLsb' (64 + 8 * j.val) 8⟩ := by
  have hcandidates : (parseRouteImage d).candidates = Vector.ofFn fun j : Fin 8 => d.extractLsb' (64 + 8 * j.val) 8 :=
    tabulate_congr fun j => congrArg (fun k => d.extractLsb' k 8) (by omega)
  rw [← hcandidates]
  rfl

theorem parseProfiles_eq (d : BitVec 256) :
    parseProfiles d = Vector.ofFn fun j : Fin 7 => d.extractLsb' (16 * j.val) 16 :=
  tabulate_congr fun j => congrArg (fun k => d.extractLsb' k 16) (by omega)

/-! ### The checks (R171) -/

section
variable {s : State} {b : Block} {row : CatalogueRow}

/-- The request has an image: it is a read or a write (R170). -/
def CatalogueRow.hasImage (row : CatalogueRow) : Prop := row.cls = .write ∨ row.cls = .read

theorem checkBlock_flags (h : b.flags.extractLsb' 5 3 ≠ 0) : s.checkBlock b = .ends .requestCheck .flags := by
  unfold State.checkBlock
  exact if_pos (decide_eq_true h)

theorem checkBlock_code (hf : b.flags.extractLsb' 5 3 = 0) (h : ∀ row ∈ catalogue, row.code ≠ b.code) :
    s.checkBlock b = .ends .requestCheck .code := by
  have hset : ¬ b.reservedSet = true := fun e => of_decide_eq_true e hf
  unfold State.checkBlock
  rw [if_neg hset, catalogueRow_eq_none h]

theorem checkBlock_row (hf : b.flags.extractLsb' 5 3 = 0) (hr : catalogueRow b.code = some row) :
    s.checkBlock b =
      if row.request = .jump && s.chan.afterJump then .ends .sequenceCheck .doubleJump else s.checkRow b row := by
  have hset : ¬ b.reservedSet = true := fun e => of_decide_eq_true e hf
  unfold State.checkBlock
  rw [if_neg hset, hr]

theorem checkRow_index (h : row.indexMax < b.checkedIndex row.request) :
    s.checkRow b row = .ends .requestCheck .index := by
  unfold State.checkRow
  exact if_pos h

theorem checkRow_count (hi : b.checkedIndex row.request ≤ row.indexMax) (hd : row.hasImage) (hc : b.count.toNat = 0) :
    s.checkRow b row = .ends .requestCheck .count := by
  have hcount : b.count = 0 := BitVec.eq_of_toNat_eq hc
  have himage : decide (row.cls = .write ∨ row.cls = .read) = true := decide_eq_true hd
  unfold State.checkRow
  dsimp only
  rw [if_neg (not_lt.mpr hi), himage, hcount]
  rfl

/-- The data address, or a JUMP's target, is not aligned (R171 step 5). -/
def Block.misaligned (b : Block) (row : CatalogueRow) : Prop :=
  (row.hasImage ∧ b.dataAddress.toNat % 8 ≠ 0) ∨ (row.request = .jump ∧ b.dataAddress.toNat % 16 ≠ 0)

/-- The block compares a generation that is not the record's (R173). -/
def State.isStale (s : State) (b : Block) (row : CatalogueRow) : Prop :=
  b.flags.getLsbD 2 = true ∧ ∃ g, s.generationOf row.request b.index = some g ∧ g ≠ b.generation

theorem isStale_iff :
    (b.gen && (s.generationOf row.request b.index).any fun g => decide (g ≠ b.generation)) = true ↔
        s.isStale b row := by
  unfold Block.gen State.isStale
  rw [Bool.and_eq_true]
  refine and_congr_right fun _ => ?_
  cases s.generationOf row.request b.index <;> simp

theorem misaligned_iff (hrow : row ∈ catalogue) :
    ((decide (row.cls = .write ∨ row.cls = .read) || decide (row.cls = .flow)) &&
        decide (b.dataAddress.toNat % (if row.cls = .flow then 16 else 8) ≠ 0)) = true ↔ b.misaligned row := by
  have hflow := catalogue_flow row hrow
  unfold Block.misaligned CatalogueRow.hasImage
  rw [← hflow]
  cases row.cls <;> simp

/-- Steps 4 to 7, for a block whose index is in range and whose count is right. -/
theorem checkRow_rest (hrow : row ∈ catalogue) (hi : b.checkedIndex row.request ≤ row.indexMax)
    (hc : ¬ (row.hasImage ∧ b.count.toNat = 0)) :
    (b.misaligned row → s.checkRow b row = .ends .requestCheck .alignment) ∧
      (¬ b.misaligned row →
        (s.isStale b row → s.checkRow b row = .stale) ∧
        (¬ s.isStale b row →
          (¬ row.hasImage → s.checkRow b row = .passes row b) ∧
          (row.hasImage → s.checkRow b row =
            match lengthFault row.cls b.count.toNat row.size b.slen with
            | some cause => .ends .lengthCheck cause
            | none => .passes row { b with residual := BitVec.ofNat 16 (b.count.toNat - row.size) }))) := by
  have hcount : ¬ (decide (row.cls = .write ∨ row.cls = .read) && decide (b.count = 0)) = true := by
    rw [Bool.and_eq_true, decide_eq_true_eq, decide_eq_true_eq]
    rintro ⟨himage, hzero⟩
    exact hc ⟨himage, by rw [hzero]; rfl⟩
  obtain ⟨out, hout⟩ : ∃ out, s.checkRow b row = out := ⟨_, rfl⟩
  rw [hout]
  unfold State.checkRow at hout
  dsimp only at hout
  rw [if_neg (not_lt.mpr hi), if_neg hcount] at hout
  refine ⟨fun h => hout.symm.trans (if_pos ((misaligned_iff hrow).mpr h)), fun h => ?_⟩
  rw [if_neg (mt (misaligned_iff hrow).mp h)] at hout
  refine ⟨fun h => hout.symm.trans (if_pos (isStale_iff.mpr h)), fun h => ?_⟩
  rw [if_neg (mt isStale_iff.mp h)] at hout
  have himage : decide (row.cls = .write ∨ row.cls = .read) = true ↔ row.hasImage := decide_eq_true_iff
  refine ⟨fun h => hout.symm.trans (if_neg (mt himage.mp h)), fun h => ?_⟩
  rw [if_pos (himage.mpr h)] at hout
  exact hout.symm

end

/-! ### What follows a check (R169, R175) -/

section
variable {s : State} {b : Block} {row : CatalogueRow}

theorem lengthFault_long {cls : RequestClass} {count size : Nat} (h : size < count) :
    lengthFault cls count size false = some .long := if_pos h

theorem lengthFault_short {cls : RequestClass} {count size : Nat} {slen : Bool} (h : count < size)
    (hs : slen = false ∨ cls = .write) : lengthFault cls count size slen = some .short := by
  unfold lengthFault
  rw [if_neg (by omega), if_pos h]
  rcases hs with rfl | rfl
  · rfl
  · exact if_neg (by simp)

theorem lengthFault_none {cls : RequestClass} {count size : Nat} {slen : Bool}
    (h : count = size ∨ (size < count ∧ slen = true) ∨ (count < size ∧ slen = true ∧ cls = .read)) :
    lengthFault cls count size slen = none := by
  unfold lengthFault
  rcases h with rfl | ⟨hlt, rfl⟩ | ⟨hlt, rfl, rfl⟩
  · rw [if_neg (lt_irrefl _), if_neg (lt_irrefl _)]
  · rw [if_pos hlt]
    rfl
  · rw [if_neg (by omega), if_pos hlt]
    rfl

theorem proceed_noBus (hw : row.cls = .write) (hbus : s.chan.busMaster = false) :
    s.proceed row b = s.endCheck .accessCheck .dataRead b.address := by
  unfold State.proceed
  rw [if_pos hw, hbus]
  rfl

theorem proceed_reads (hw : row.cls = .write) (hbus : s.chan.busMaster = true) :
    s.proceed row b =
      s.setChan { s.chan with work := .reading s.chan.nextTag b 0, nextTag := s.chan.nextTag + 1 } := by
  unfold State.proceed
  rw [if_pos hw, hbus]
  rfl

/-- SET-LINE is a write, so every other class of request asks for an apply at once (R3). -/
theorem catalogue_setLine : ∀ row ∈ catalogue, row.request = .setLine → row.cls = .write := by decide

theorem proceed_waits (hrow : row ∈ catalogue) (hw : row.cls ≠ .write) :
    ∃ i, b.command row.request 0 = some i ∧ s.proceed row b = s.setChan { s.chan with work := .applying b i } := by
  obtain ⟨i, hi⟩ := command_isSome b 0 fun e => hw (catalogue_setLine row hrow e)
  refine ⟨i, hi, ?_⟩
  unfold State.proceed
  rw [if_neg hw, hi]

/-- The completion of the outstanding fetch (R171). -/
theorem blockFetchComplete_taken {tag : Nat} {address : Quad} {ticks : Nat}
    (hw : s.chan.work = .fetching tag address ticks false) (w : BitVec 128) :
    exec (.blockFetchComplete tag (some w)) s = .next (s.takeBlock (parseBlock address w)) := by
  change execBlockFetchComplete tag (some w) s = _
  unfold execBlockFetchComplete
  rw [hw]
  exact if_pos rfl

theorem blockFetchComplete_failed {tag : Nat} {address : Quad} {ticks : Nat}
    (hw : s.chan.work = .fetching tag address ticks false) :
    exec (.blockFetchComplete tag none) s = .next (s.endCheck .accessCheck .fetch address) := by
  change execBlockFetchComplete tag none s = _
  unfold execBlockFetchComplete
  rw [hw]
  exact if_pos rfl

theorem blockFetchComplete_forgotten {tag other : Nat} {address : Quad} {ticks : Nat} {block : Option (BitVec 128)}
    (hw : s.chan.work = .fetching tag address ticks false) (h : other ≠ tag) :
    exec (.blockFetchComplete other block) s = .next s := by
  change execBlockFetchComplete other block s = _
  unfold execBlockFetchComplete
  rw [hw]
  exact if_neg (Ne.symm h)

theorem takeBlock_ends {kind : EndKind} {cause : Cause} (h : s.checkBlock b = .ends kind cause) :
    s.takeBlock b = s.endCheck kind cause b.address := by
  unfold State.takeBlock
  rw [h]

theorem takeBlock_stale (h : s.checkBlock b = .stale) :
    s.takeBlock b = s.reachCondition b .mismatch .generation := by
  unfold State.takeBlock
  rw [h]

theorem takeBlock_passes {b' : Block} (h : s.checkBlock b = .passes row b') : s.takeBlock b = s.proceed row b' := by
  unfold State.takeBlock
  rw [h]

/-! ### What the fields of a block spell, for each kind of index -/

theorem spells_hop (b : Block) (d : BitVec 256) (s : State) {h : HopIndex} (hn : b.index.toNat = h.val) :
    b.command .readHop d = some (.readHop h) ∧ b.command .retireHop d = some (.retireHop h) ∧
      b.command .clearHopCounts d = some (.clearHopCounts h) ∧
      b.command .writeHop d = some (.writeHop h (parseHopImage d)) ∧
      ∀ r ∈ [Request.readHop, .writeHop, .retireHop, .clearHopCounts],
        s.generationOf r b.index = some s.hops[h].generation := by
  have hi : (Fin.ofNat 64 b.index.toNat : HopIndex) = h := ofNat_eq_of_val hn
  simp only [Block.command, checkedIndex_plain b (r := .readHop) rfl, checkedIndex_plain b (r := .retireHop) rfl,
    checkedIndex_plain b (r := .clearHopCounts) rfl, checkedIndex_plain b (r := .writeHop) rfl, hi, true_and]
  simp only [List.mem_cons, List.not_mem_nil, or_false]
  rintro r (rfl | rfl | rfl | rfl) <;> simp only [State.generationOf, hi]

theorem spells_path (b : Block) (d : BitVec 256) (s : State) {p : PathIndex} (hn : b.index.toNat = p.val) :
    b.command .readPath d = some (.readPath p) ∧ b.command .retirePath d = some (.retirePath p) ∧
      b.command .restartEstimate d = some (.restartEstimate p) ∧
      b.command .writePath d = some (.writePath p (parsePathImage d)) ∧
      ∀ r ∈ [Request.readPath, .writePath, .retirePath, .restartEstimate],
        s.generationOf r b.index = some s.paths[p].generation := by
  have hi : (Fin.ofNat 128 b.index.toNat : PathIndex) = p := ofNat_eq_of_val hn
  simp only [Block.command, checkedIndex_plain b (r := .readPath) rfl, checkedIndex_plain b (r := .retirePath) rfl,
    checkedIndex_plain b (r := .restartEstimate) rfl, checkedIndex_plain b (r := .writePath) rfl, hi, true_and]
  simp only [List.mem_cons, List.not_mem_nil, or_false]
  rintro r (rfl | rfl | rfl | rfl) <;> simp only [State.generationOf, hi]

theorem spells_route (b : Block) (d : BitVec 256) (s : State) {i : RouteIndex} (hn : b.index.toNat = i.val) :
    b.command .readRoute d = some (.readRoute i) ∧ b.command .retireRoute d = some (.retireRoute i) ∧
      b.command .writeRoute d = some (.writeRoute i (parseRouteImage d)) ∧
      ∀ r ∈ [Request.readRoute, .writeRoute, .retireRoute],
        s.generationOf r b.index = some s.routes[i].generation := by
  have hi : (Fin.ofNat 32 b.index.toNat : RouteIndex) = i := ofNat_eq_of_val hn
  simp only [Block.command, checkedIndex_plain b (r := .readRoute) rfl, checkedIndex_plain b (r := .retireRoute) rfl,
    checkedIndex_plain b (r := .writeRoute) rfl, hi, true_and]
  simp only [List.mem_cons, List.not_mem_nil, or_false]
  rintro r (rfl | rfl | rfl) <;> simp only [State.generationOf, hi]

theorem spells_class (b : Block) (d : BitVec 256) {c : ClassIndex} (hn : b.index.toNat = c.val) :
    b.command .readClass d = some (.readClass c) ∧
      b.command .writeClass d = some (.writeClass c (parseClassImage d)) := by
  have hi : (Fin.ofNat 4 b.index.toNat : ClassIndex) = c := ofNat_eq_of_val hn
  simp only [Block.command, checkedIndex_plain b (r := .readClass) rfl, checkedIndex_plain b (r := .writeClass) rfl, hi,
    and_self]

theorem spells_level (b : Block) (d : BitVec 256) {k : LevelIndex} (hn : b.index.toNat = k.val) :
    b.command .placeHold d = some (.placeHold k (leField d 0 8)) ∧
      b.command .releaseHold d = some (.releaseHold k) := by
  have hi : (Fin.ofNat 8 b.index.toNat : LevelIndex) = k := ofNat_eq_of_val hn
  simp only [Block.command, checkedIndex_plain b (r := .placeHold) rfl, checkedIndex_plain b (r := .releaseHold) rfl,
    hi,
    and_self]

theorem spells_setLine (b : Block) (d : BitVec 256) {l : LineIndex} (hn : b.index.toNat = l.val) :
    b.command .setLine d = lineAction l (leField d 0 1) := by
  have hi : (Fin.ofNat 8 b.index.toNat : LineIndex) = l := ofNat_eq_of_val hn
  simp only [Block.command, checkedIndex_plain b (r := .setLine) rfl, hi]

theorem spells_readLine (b : Block) (d : BitVec 256) {l : LineIndex} (hn : b.index.toNat % 32768 = l.val) :
    b.command .readLine d = some (.readLine l (b.index.getLsbD 15)) := by
  have hi : (Fin.ofNat 8 (b.index.toNat % 32768) : LineIndex) = l := ofNat_eq_of_val hn
  simp only [Block.command, checkedIndex_zeroOption b (r := .readLine) rfl, hi, Block.zeroOption]

/-- Only a hop, path or route request compares a generation (R173). -/
theorem generationOf_none (s : State) (index : Half) :
    ∀ r ∈ [Request.jump, .readClass, .writeClass, .writeProfiles, .readProfiles, .placeHold, .releaseHold, .readHolds,
      .setTime, .adjustTime, .readTime, .writeTiming, .setLine, .readLine, .collect, .readDevice, .writeDevice],
      s.generationOf r index = none := by
  intro r hr
  fin_cases hr <;> rfl

end

/-- The index that R171 checks against the request's greatest. -/
theorem checkedIndex_of_row (b : Block) {row : CatalogueRow} (hrow : row ∈ catalogue) :
    b.checkedIndex row.request =
      if row.request = .readLine ∨ row.request = .readDevice then b.index.toNat % 32768 else b.index.toNat := by
  have hzero := catalogue_zeroOption row hrow
  split
  · exact checkedIndex_zeroOption b (hzero.mpr ‹_›)
  · exact checkedIndex_plain b (Bool.eq_false_iff.mpr (mt hzero.mp ‹_›))

/-- Settles O51: the fetched block's fields spell its request, and the checks decide in the order of R171. -/
theorem fetchedBlockIsReadAndCheckedInOrder : Obligations.FetchedBlockIsReadAndCheckedInOrder := by
  unfold Obligations.FetchedBlockIsReadAndCheckedInOrder
  refine ⟨rfl, fun b d s => ?_, fun s tag address ticks hw => ?_⟩
  · intro n spells compares
    refine ⟨fun h hn => spells_hop b d s hn, fun p hn => ?_, fun i hn => ?_, fun c hn => spells_class b d hn,
      fun k hn => spells_level b d hn, fun l hn => ?_, fun l hn => spells_readLine b d hn, ?_, rfl, rfl, rfl, rfl, rfl,
      rfl, rfl, rfl, rfl, rfl, generationOf_none s b.index⟩
    · obtain ⟨hread, hretire, hrestart, hwrite, hgeneration⟩ := spells_path b d s hn
      exact ⟨hread, hretire, hrestart, parsePathImage_eq d ▸ hwrite, hgeneration⟩
    · obtain ⟨hread, hretire, hwrite, hgeneration⟩ := spells_route b d s hn
      exact ⟨hread, hretire, parseRouteImage_eq d ▸ hwrite, hgeneration⟩
    · exact (spells_setLine b d hn).trans (lineAction_eq l _)
    · exact congrArg (fun image => some (Instr.writeProfiles image)) (parseProfiles_eq d)
  · intro c ends
    have hends (kind : EndKind) (cause : Cause) : .next (s.endCheck kind cause address) = ends kind cause :=
      congrArg Host.Outcome.next (State.endCheck_eq kind cause address s)
    refine ⟨(blockFetchComplete_failed hw).trans (hends _ _), fun other block h => blockFetchComplete_forgotten hw h,
      fun w => ?_⟩
    intro b taken
    have htaken : taken = .next (s.takeBlock b) := blockFetchComplete_taken hw w
    have hfails {kind : EndKind} {cause : Cause} (h : s.checkBlock b = .ends kind cause) : taken = ends kind cause :=
      (htaken.trans (congrArg Host.Outcome.next (takeBlock_ends h))).trans (hends kind cause)
    have hpasses {row : CatalogueRow} {b' : Block} (h : s.checkBlock b = .passes row b') :
        taken = .next (s.proceed row b') := htaken.trans (congrArg Host.Outcome.next (takeBlock_passes h))
    have hresidual : b.residual = 0 := rfl
    have haddress : b.address = address := rfl
    clear_value taken b
    refine ⟨fun hf => hfails (checkBlock_flags hf), fun hf h => hfails (checkBlock_code hf h), ?_⟩
    intro row hrow hcode hf data index slen count b'
    have hblock := checkBlock_row (s := s) hf (hcode ▸ catalogueRow_of_mem row hrow)
    have hindex : index = b.checkedIndex row.request := (checkedIndex_of_row b hrow).symm
    have hjump : (decide (row.request = .jump) && s.chan.afterJump) = true ↔
        row.request = .jump ∧ c.afterJump = true := by
      rw [Bool.and_eq_true, decide_eq_true_eq]
    refine ⟨fun hj ha => hfails (hblock.trans (if_pos (hjump.mpr ⟨hj, ha⟩))), fun hd => ?_⟩
    rw [if_neg (mt hjump.mp hd)] at hblock
    refine ⟨fun hi => hfails (hblock.trans (checkRow_index (hindex ▸ hi))), fun hi => ?_⟩
    have hi' : b.checkedIndex row.request ≤ row.indexMax := hindex ▸ hi
    refine ⟨fun hdata hc => hfails (hblock.trans (checkRow_count hi' hdata hc)), fun hc => ?_⟩
    obtain ⟨hmisaligned, haligned⟩ := checkRow_rest (s := s) hrow hi' hc
    refine ⟨fun hm => hfails (hblock.trans (hmisaligned hm)), fun hm => ?_⟩
    obtain ⟨hstale, hfresh⟩ := haligned hm
    refine ⟨fun hs => ?_, fun hs => ?_⟩
    · exact htaken.trans (congrArg Host.Outcome.next (takeBlock_stale (hblock.trans (hstale hs))))
    obtain ⟨hplain, himage⟩ := hfresh hs
    rw [← hblock] at hplain himage
    refine ⟨fun hdata hlong hslen => hfails ?_, fun hdata hshort hslen => hfails ?_, fun hdata hfits => ?_,
      fun hdata => ?_⟩
    · have h := himage hdata
      rw [show b.slen = false from hslen, lengthFault_long hlong] at h
      exact h
    · have h := himage hdata
      rw [lengthFault_short (slen := b.slen) hshort hslen] at h
      exact h
    · have h := himage hdata
      rw [lengthFault_none (slen := b.slen) hfits] at h
      have hb' : b' = { b with residual := BitVec.ofNat 16 (b.count.toNat - row.size) } :=
        congrArg (fun r => { b with residual := r }) (if_pos hdata)
      have hproceed := hpasses (hb' ▸ h)
      refine ⟨fun hwrite hbus => ?_, fun hwrite hbus => ?_, fun hread => ?_⟩
      · rw [hproceed, proceed_noBus hwrite hbus, show b'.address = address from haddress]
        exact hends _ _
      · exact hproceed.trans (congrArg Host.Outcome.next (proceed_reads hwrite hbus))
      · obtain ⟨i, hspells, hwaits⟩ := proceed_waits (s := s) (b := b') hrow (hread ▸ by decide)
        exact ⟨i, hspells, hproceed.trans (congrArg Host.Outcome.next hwaits)⟩
    · have hb' : b' = b := by
        change { b with residual := if data then _ else 0 } = b
        rw [if_neg hdata, ← hresidual]
      have hproceed := hpasses ((hplain hdata).trans (congrArg (CheckOutcome.passes row) hb'.symm))
      obtain ⟨i, hspells, hwaits⟩ := proceed_waits (s := s) (b := b') hrow fun e => hdata (.inl e)
      exact ⟨i, hspells, hproceed.trans (congrArg Host.Outcome.next hwaits)⟩

end Sys2Proof.Machine
end

section
/-! PROOF of O1, O6, O7, O8, O9, O10, O15 and O20. The report lines: gathering a frame (R8), its end (R9), the line
actions (R4 to R6, R16), the search for a grant (R12); and the attention count (R135) and the held status (R44). -/

namespace Sys2Proof.Machine

open Sys2Proof

/-- Settles O1: the front command is run on the queue's rest. -/
theorem stepRunsFrontCommand : Obligations.StepRunsFrontCommand := fun _ _ _ h => step_cons h

/-! ### Gathering a frame (R8) -/

/-- The stage's bits after one more: all moved up by one place, the new one lowest. -/
theorem getLsbD_shiftIn (b : BitVec 64) (bit : Bool) {j : Nat} (hj : j < 64) :
    (b <<< 1 ||| (BitVec.ofBool bit).setWidth 64).getLsbD j = if j = 0 then bit else b.getLsbD (j - 1) := by
  cases j with
  | zero => simp
  | succ j => simp [hj, BitVec.getLsbD_eq_getElem (show j < 64 by omega)]

theorem shiftIn_eq_append (b : BitVec 64) (bit : Bool) :
    b <<< 1 ||| (BitVec.ofBool bit).setWidth 64 = b.extractLsb' 0 63 ++ BitVec.ofBool bit := by
  refine BitVec.eq_of_getLsbD_eq fun j hj => ?_
  rw [getLsbD_shiftIn b bit hj]
  cases j with
  | zero => simp only [BitVec.getLsbD_append]; simp
  | succ j =>
    have hlow : b.getLsbD j = true → j < 63 := fun _ => by omega
    rw [BitVec.getLsbD_append]
    simpa using hlow

/-- The stage has gathered `bits`: it counts them up to 65 and holds the first 64, the first highest. -/
def Stage.gathered (bits : List Bool) (g : Stage) : Prop :=
  g.count = min bits.length 65 ∧
    ∀ k < min bits.length 64, g.bits.getLsbD (min bits.length 64 - 1 - k) = bits.getD k false

/-- One more bit is gathered behind the others. -/
theorem Stage.gathered_shift {bits : List Bool} {g : Stage} (h : g.gathered bits) (bit : Bool) :
    (g.shift bit).gathered (bits ++ [bit]) := by
  obtain ⟨hcount, hbits⟩ := h
  have hlength : (bits ++ [bit]).length = bits.length + 1 := by simp
  refine ⟨?_, fun k hk => ?_⟩
  · change min (g.count + 1) 65 = _
    omega
  rw [hlength] at hk ⊢
  by_cases hroom : bits.length < 64
  · have hshift : (g.shift bit).bits = g.bits <<< 1 ||| (BitVec.ofBool bit).setWidth 64 := if_pos (by omega)
    rw [hshift, getLsbD_shiftIn _ _ (by omega)]
    by_cases hlast : k = bits.length
    · subst hlast
      rw [if_pos (by omega)]
      simp
    · rw [if_neg (by omega), List.getD_append _ _ _ _ (by omega), ← hbits k (by omega)]
      congr 1
      omega
  · have hshift : (g.shift bit).bits = g.bits := if_neg (by omega)
    rw [hshift, List.getD_append _ _ _ _ (by omega), ← hbits k (by omega)]
    congr 1
    omega

theorem Stage.gathered_foldl (admitted : Bool) (bits : List Bool) :
    (bits.foldl Stage.shift ⟨admitted, 0, 0⟩).gathered bits := by
  induction bits using List.reverseRecOn with
  | nil => exact ⟨rfl, fun k hk => absurd hk (by simp)⟩
  | append_singleton bits bit ih =>
    rw [List.foldl_append]
    exact Stage.gathered_shift ih bit

theorem Stage.foldl_admitted (bits : List Bool) (g : Stage) : (bits.foldl Stage.shift g).admitted = g.admitted := by
  induction bits generalizing g with
  | nil => rfl
  | cons bit bits ih => exact ih (g.shift bit)

/-- Settles O7: what the stage has gathered, by induction on the bits from the last one. -/
theorem stageKeepsBitsInOrderOfArrival : Obligations.StageKeepsBitsInOrderOfArrival :=
  fun admitted bits => ⟨Stage.foldl_admitted bits _, Stage.gathered_foldl admitted bits⟩

/-- Settles O6: a frame begins on an inactive frame-select alone, and a clock edge reaches a gathered frame alone. -/
theorem frameBeginsAndGathersBits : Obligations.FrameBeginsAndGathersBits := by
  intro l s
  obtain ⟨x, hx⟩ : ∃ x, s.lines[l] = x := ⟨_, rfl⟩
  have hbegin : exec (.reportFrameBegin l) s = .next (s.setLine l x.frameBegin) := hx ▸ rfl
  have hclock (bit : Bool) : exec (.reportClockEdge l bit) s = .next (s.setLine l (x.clockEdge bit)) := hx ▸ rfl
  have hsame : s.setLine l x = s := hx ▸ s.setLine_get l
  rw [hbegin, hx]
  refine ⟨fun hselect hstage => ?_, fun hselect => ?_, fun bit g hselect hstage => ?_, fun bit h => ?_⟩
  · unfold Line.frameBegin
    rw [hselect, hstage]
    rfl
  · unfold Line.frameBegin
    rw [if_pos hselect, hsame]
  · rw [hclock]
    unfold Line.clockEdge Stage.shift
    rw [if_pos hselect, hstage, ← shiftIn_eq_append]
    have hcount : min (g.count + 1) 65 = if g.count < 65 then g.count + 1 else 65 := by split <;> omega
    rw [← hcount]
    rfl
  · have hkept : x.clockEdge bit = x := by
      unfold Line.clockEdge
      rcases h with h | h
      · exact if_neg (by simp [h])
      · split
        · rw [h]
          exact congrArg (fun stage => { x with stage := stage }) h.symm
        · rfl
    rw [hclock, hkept, hsame]

/-! ### The frame's end (R9) -/

/-- The sum of the eight bytes, as the rule and as the model writes it. -/
theorem frameSum_toNat (f : BitVec 64) : (frameSum f).toNat = frameByteSum f % 256 := by
  simp only [frameSum, frameByteSum, BitVec.toNat_add, List.range, List.range.loop, List.map_cons, List.map_nil,
    List.sum_cons, List.sum_nil, Nat.reduceMul]
  omega

theorem frameSum_ne_zero (f : BitVec 64) : frameSum f ≠ 0 ↔ frameByteSum f % 256 ≠ 0 := by
  rw [← frameSum_toNat]
  exact not_congr (BitVec.toNat_eq (y := 0)).symm.symm

/-- An inactive frame-select has no frame to end. -/
theorem Line.frameEnd_inactive {x : Line} (h : x.frameSelect = false) (now : Quad) : x.frameEnd now = x := by
  unfold Line.frameEnd
  rw [h]
  rfl

/-- A frame that was discarded ends unseen. -/
theorem Line.frameEnd_unseen {x : Line} (h : x.stage = none) (now : Quad) :
    x.frameEnd now = { x with frameSelect := false } := by
  obtain ⟨state, select, stage, buffer, counters⟩ := x
  subst h
  cases select <;> rfl

theorem Line.frameEnd_gathered {x : Line} {g : Stage} (hselect : x.frameSelect = true) (hstage : x.stage = some g)
    (now : Quad) :
    x.frameEnd now = ({ x with frameSelect := false, stage := none }.dealWithEnd g now).settleSuspend := by
  obtain ⟨state, select, stage, buffer, counters⟩ := x
  subst hselect hstage
  rfl

theorem Line.settleSuspend_eq (x : Line) :
    x.settleSuspend = { x with state := if x.state = .suspending then .suspended else x.state } := by
  unfold Line.settleSuspend
  split <;> rfl

/-- The cases of the end leave the state, and the end of SUSPENDING leaves what they look at. -/
theorem Line.dealWithEnd_settleSuspend (x : Line) (g : Stage) (now : Quad) :
    (x.dealWithEnd g now).settleSuspend = x.settleSuspend.dealWithEnd g now := by
  simp only [Line.settleSuspend_eq, Line.dealWithEnd]
  split_ifs <;> rfl

/-- The frame is in error by its sync byte or its sum. -/
theorem frame_check_iff (f : BitVec 64) :
    (decide (frameSync f ≠ 0xA5) || decide (frameSum f ≠ 0)) = true ↔
      f.extractLsb' 56 8 ≠ 0xA5 ∨ frameByteSum f % 256 ≠ 0 := by
  rw [Bool.or_eq_true, decide_eq_true_eq, decide_eq_true_eq, frameSum_ne_zero]
  rfl

/-- Settles O8: the five cases in their order, then the end of SUSPENDING. -/
theorem frameEndIsDealtWithByFirstCase : Obligations.FrameEndIsDealtWithByFirstCase := by
  refine ⟨fun l s hstage => ?_, fun l s g hselect hstage => ?_⟩
  · obtain ⟨x, hx⟩ : ∃ x, s.lines[l] = x := ⟨_, rfl⟩
    have hend : exec (.reportFrameEnd l) s = .next (s.setLine l (x.frameEnd s.time.count)) := hx ▸ rfl
    rw [hx] at hstage ⊢
    rw [hend, Line.frameEnd_unseen hstage]
  · obtain ⟨x, hx⟩ : ∃ x, s.lines[l] = x := ⟨_, rfl⟩
    have hend : exec (.reportFrameEnd l) s = .next (s.setLine l (x.frameEnd s.time.count)) := hx ▸ rfl
    rw [hx] at hselect hstage ⊢
    intro x' c ended
    have hended : { x with frameSelect := false, stage := none }.settleSuspend = ended := Line.settleSuspend_eq _
    have hdealt : x.frameEnd s.time.count = ended.dealWithEnd g s.time.count := by
      rw [Line.frameEnd_gathered hselect hstage, Line.dealWithEnd_settleSuspend, hended]
    rw [hend, hdealt]
    refine congrArg (fun y => Host.Outcome.next (s.setLine l y)) ?_
    exact if_congr Iff.rfl rfl (if_congr (by rw [Bool.not_eq_true']) rfl
      (if_congr (frame_check_iff g.bits) rfl (if_congr Option.isNone_iff_eq_none rfl rfl)))

/-! ### The line requests (R4 to R6, R16) -/

/-- Settles O9: each request is its action on the line. -/
theorem lineRequestsActOnTheLine : Obligations.LineRequestsActOnTheLine := by
  intro l s
  obtain ⟨x, hx⟩ : ∃ x, s.lines[l] = x := ⟨_, rfl⟩
  have hsuspend {y : Line} (hy : x.suspend = y) : Applies (.suspend l) s (s.setLine l y) ⟨.done, .none, []⟩ :=
    applies_of_settle_eq rfl (by rw [hx, hy]; rfl) rfl
  rw [hx]
  refine ⟨applies_of_settle_eq rfl (by rw [hx]; rfl) rfl, fun hr ⟨g, hg, ha⟩ => hsuspend ?_,
    fun hr hg => hsuspend ?_, fun hr => ?_, applies_of_settle_eq rfl (by rw [hx]; rfl) rfl,
    applies_of_settle_eq rfl ?_ rfl, applies_of_settle_eq rfl (by rw [hx]; rfl) rfl⟩
  · have hadmitted : x.admittedInProgress = true := by
      unfold Line.admittedInProgress
      rw [hg]
      exact ha
    unfold Line.suspend
    rw [if_pos hr, hadmitted]
    rfl
  · have hnone : x.admittedInProgress = false := by
      unfold Line.admittedInProgress
      cases hstage : x.stage with
      | none => rfl
      | some g => exact hg g hstage
    unfold Line.suspend
    rw [if_pos hr, hnone]
    rfl
  · have h : Applies (.suspend l) s (s.setLine l x) ⟨.done, .none, []⟩ := hsuspend (if_neg hr)
    rwa [← hx, s.setLine_get l] at h
  · rw [← hx]
    exact congrArg (·, Reply.read s.lines[l].image) (s.setLine_get l)

/-! ### The search for a grant (R12) -/

/-- A search through the first `n` places finds the first one that passes. -/
theorem find?_map_range {α : Type} (place : Nat → α) (passes : α → Bool) (n : Nat) (a : α) :
    ((List.range n).map place).find? passes = some a ↔
      ∃ k < n, a = place k ∧ passes a = true ∧ ∀ j < k, passes (place j) = false := by
  rw [List.find?_map, Option.map_eq_some_iff]
  constructor
  · rintro ⟨k, hk, rfl⟩
    obtain ⟨hpass, hmem, hfirst⟩ := List.find?_range_eq_some.mp hk
    exact ⟨k, List.mem_range.mp hmem, rfl, hpass, fun j hj => by simpa using hfirst j hj⟩
  · rintro ⟨k, hk, rfl, hpass, hfirst⟩
    exact ⟨k, List.find?_range_eq_some.mpr ⟨hpass, List.mem_range.mpr hk, fun j hj => by simpa using hfirst j hj⟩, rfl⟩

/-- Settles O10: the grant is the search through the nine positions from the pointer. -/
theorem arbiterGrantsFirstFromPointer : Obligations.ArbiterGrantsFirstFromPointer :=
  fun s p => find?_map_range (fun k => Fin.ofNat 9 (s.arbiter.val + k)) s.requests 9 p

/-! ### The attention count and the held status -/

/-- Settles O15: the four changes of a flag, and the rise from 0. -/
theorem attentionFlagIsCounted : Obligations.AttentionFlagIsCounted := by
  intro s old new t
  refine ⟨fun h => ?_, fun ho hn => ?_, fun ho hn => ?_⟩
  · subst h
    exact s.countAttention_same old
  · subst ho hn
    rfl
  · subst ho hn
    have ht : t = if s.attentionCount = 0 then { s with attentionCount := s.attentionCount + 1 }.raise .attention
        else { s with attentionCount := s.attentionCount + 1 } := rfl
    clear_value t
    subst ht
    split
    · rename_i h
      exact ⟨rfl, fun hne => absurd h hne, fun _ => rfl, rfl⟩
    · rename_i h
      exact ⟨rfl, fun _ => rfl, fun he => absurd he h, rfl⟩

theorem heldBy_iff (holds : Vector (Option (BitVec 64)) 8) (i : HopIndex) :
    heldBy holds i = true ↔ ∃ (k : LevelIndex) (set : BitVec 64), holds[k] = some set ∧ set.getLsbD i = true := by
  unfold heldBy
  rw [List.any_eq_true]
  constructor
  · rintro ⟨level, hmem, hnames⟩
    obtain ⟨k, hk, hlevel⟩ := Vector.getElem_of_mem (Vector.mem_toList_iff.mp hmem)
    cases level with
    | none => exact absurd hnames Bool.false_ne_true
    | some set => exact ⟨⟨k, hk⟩, set, hlevel, hnames⟩
  · rintro ⟨k, set, hk, hset⟩
    exact ⟨some set, Vector.mem_toList_iff.mpr (hk ▸ Vector.getElem_mem k.isLt), hset⟩

/-- Settles O20: the levels are looked through for one that names the hop. -/
theorem heldWhileSomePlacedLevelNamesIt : Obligations.HeldWhileSomePlacedLevelNamesIt :=
  fun s i => heldBy_iff s.holds i

end Sys2Proof.Machine
end

section
/-! PROOF of O16, O17, O21 and O22. The hop requests where the block in execution does not wait for them (R36 to R41),
and the placing and releasing of hold levels (R45 to R48). -/

namespace Sys2Proof.Machine

open Sys2Proof

section
variable {c : Instr} {s t : State} {r : Reply}

/-- A hop request that the block in execution does not wait for is its apply, with the answer kept (R14, log 4). -/
theorem exec_hop_of_not_waiting (hw : ¬ s.waitsFor c) (ho : hopApply c s = some (t, r)) :
    exec c s = .next { t with reply := r } :=
  (exec_of_hopApply ho).trans (congrArg Host.Outcome.next (hopRequest_other fun b hb => hw ⟨b, hb⟩))

end

/-- A trigger that may be sent is appended to those that wait. -/
theorem State.triggerIf_eq (b : Bool) (t : Trigger) (s : State) :
    s.triggerIf b t = { s with triggers := s.triggers ++ (if b then [t] else []) } := by
  cases b with
  | false => exact congrArg (fun triggers => { s with triggers := triggers }) (List.append_nil s.triggers).symm
  | true => rfl

/-- A re-rank triggered after a hop record was written. -/
theorem State.putHop_trigger (i : HopIndex) (x : Hop) (t : Trigger) (s : State) :
    (s.putHop i x).trigger t = { (s.putHop i x) with triggers := s.triggers ++ [t] } := by
  rw [State.trigger, State.triggerIf_eq, State.putHop_triggers]
  rfl

theorem State.putHop_triggerIf (i : HopIndex) (x : Hop) (b : Bool) (t : Trigger) (s : State) :
    (s.putHop i x).triggerIf b t = { (s.putHop i x) with triggers := s.triggers ++ (if b then [t] else []) } := by
  rw [State.triggerIf_eq, State.putHop_triggers]

/-! ### The records that WRITE-HOP makes (R37, R38) -/

theorem Hop.enterService_eq (h : Hop) (c : HopConfig) :
    h.enterService c =
      ⟨.down, c, 0, 0, 0, 0, max c.badLimit.toNat 1, none, 0, 0, h.generation + 1, true⟩ := rfl

/-- The bad counter goes to its limit exactly in the two states below CLEAR and FADING (R38). -/
theorem Hop.rewrite_eq {h : Hop} (hs : h.state ≠ .vacant) (c : HopConfig) :
    h.rewrite c =
      { h with
        config := c
        bad := if h.state = .clear ∨ h.state = .fading then 0 else max c.badLimit.toNat 1
        silence := if c.line = h.config.line then h.silence else 0
        generation := h.generation + 1 } := by
  have hbad : (if h.state = .faded ∨ h.state = .down then c.effectiveBadLimit else 0) =
      if h.state = .clear ∨ h.state = .fading then 0 else max c.badLimit.toNat 1 := by
    cases hstate : h.state with
    | vacant => exact absurd hstate hs
    | clear => rfl
    | fading => rfl
    | faded => rfl
    | down => rfl
  unfold Hop.rewrite
  rw [hbad, ite_not]

/-- Settles O16: the failing image, the index brought into service, and the rewritten record. -/
theorem writeHopSetsTheRecord : Obligations.WriteHopSetsTheRecord := by
  intro i image s hw h config
  have happly {out : State × Reply} (ho : guarded (.writeHop i image) (applyWriteHop i image) s = out) :
      exec (.writeHop i image) s = .next { out.1 with reply := out.2 } :=
    exec_hop_of_not_waiting hw (congrArg some ho)
  have hpass (hc : image.check = none) {x : Hop} (hx : (if h.inService then h.rewrite image.config
      else h.enterService image.config) = x) :
      exec (.writeHop i image) s = .next
        { (s.putHop i x) with triggers := s.triggers ++ [.hop i], reply := ⟨.done, .none, []⟩ } := by
    have ho : applyWriteHop i image s = ((s.putHop i x).trigger (.hop i), .done) := by
      unfold applyWriteHop
      rw [← hx]
    have hpassed : contentFault (.writeHop i image) s = none := hc
    rw [happly ((guarded_pass hpassed).trans ho), State.putHop_trigger]
    rfl
  refine ⟨fun cause hc => happly (guarded_fault hc), fun hc hv => hpass hc ?_, fun hc hv => ?_⟩
  · exact if_neg (by simp [Hop.inService, hv])
  · rw [← State.putHop_same (s := s) (i := i)]
    · exact hpass hc ((if_pos (by simp [Hop.inService, hv])).trans (Hop.rewrite_eq hv _))
    · rfl

/-! ### RETIRE-HOP, CLEAR-HOP-COUNTS and READ-HOP (R39 to R41) -/

theorem hopListed_iff (s : State) (i : HopIndex) :
    s.hopListed i = true ↔ ∃ p : PathIndex, i ∈ s.paths[p].body.hops := by
  unfold State.hopListed
  rw [List.any_eq_true]
  constructor
  · rintro ⟨x, hmem, hlists⟩
    obtain ⟨p, hp, rfl⟩ := Vector.getElem_of_mem (Vector.mem_toList_iff.mp hmem)
    exact ⟨⟨p, hp⟩, List.contains_iff_mem.mp hlists⟩
  · rintro ⟨p, hlists⟩
    exact ⟨s.paths[p], Vector.mem_toList_iff.mpr (Vector.getElem_mem p.isLt), List.contains_iff_mem.mpr hlists⟩

/-- Settles O17: each request is its apply at the record. -/
theorem retireClearAndReadHop : Obligations.RetireClearAndReadHop := by
  intro i s h
  refine ⟨fun hw => ⟨fun hlisted => ?_, fun hfree => ?_⟩, fun hw => ?_, fun hw => exec_hop_of_not_waiting hw rfl⟩
  · have ho : applyRetireHop i s = (s, .mismatch .inUse) := if_pos ((hopListed_iff s i).mpr hlisted)
    exact exec_hop_of_not_waiting hw (congrArg some ho)
  · have hno : ¬ s.hopListed i = true := fun e => by
      obtain ⟨p, hp⟩ := (hopListed_iff s i).mp e
      exact hfree p hp
    have ho : applyRetireHop i s =
        ((s.putHop i (Hop.vacant (h.generation + 1))).triggerIf h.inService (.hop i), .done) := if_neg hno
    have htriggers : (if h.inService then [Trigger.hop i] else []) = if h.state = .vacant then [] else [.hop i] := by
      rcases eq_or_ne h.state .vacant with hs | hs
      · rw [if_pos hs, if_neg (by simp [Hop.inService, hs])]
      · rw [if_neg hs, if_pos (by simp [Hop.inService, hs])]
    rw [State.putHop_triggerIf, htriggers] at ho
    exact exec_hop_of_not_waiting hw (congrArg some ho)
  · exact exec_hop_of_not_waiting hw (congrArg some (applyClearHopCounts_eq i s))

/-! ### The held status after a level is placed or freed -/

section
variable {holds : Vector (Option (BitVec 64)) 8} {k : LevelIndex}

theorem heldBy_place (hk : holds[k] = none) (map : BitVec 64) (i : HopIndex) :
    heldBy (holds.set k (some map)) i = (map.getLsbD i || heldBy holds i) := by
  rw [Bool.eq_iff_iff, Bool.or_eq_true, heldBy_iff, heldBy_iff]
  constructor
  · rintro ⟨j, set, hj, hset⟩
    rw [table_set] at hj
    split at hj
    · exact .inl (Option.some.inj hj ▸ hset)
    · exact .inr ⟨j, set, hj, hset⟩
  · rintro (hmap | ⟨j, set, hj, hset⟩)
    · exact ⟨k, map, table_set_self _ _ _, hmap⟩
    · have hne : j ≠ k := by
        rintro rfl
        exact nomatch hj.symm.trans hk
      exact ⟨j, set, (table_set_ne _ _ hne).trans hj, hset⟩

/-- Freeing levels holds no hop that was not held. -/
theorem heldBy_of_freeFrom {i : HopIndex} (h : heldBy (freeFrom k holds) i = true) : heldBy holds i = true := by
  obtain ⟨j, set, hj, hset⟩ := (heldBy_iff _ _).mp h
  rw [freeFrom_get] at hj
  split at hj
  · exact nomatch hj
  · exact (heldBy_iff _ _).mpr ⟨j, set, hj, hset⟩

end

theorem belowFree_iff (s : State) (k : LevelIndex) :
    s.belowFree k = true ↔ ∃ j : LevelIndex, j.val + 1 = k.val ∧ s.holds[j] = none := by
  unfold State.belowFree
  rw [Bool.and_eq_true, decide_eq_true_eq, Option.isNone_iff_eq_none]
  constructor
  · rintro ⟨hpos, hfree⟩
    exact ⟨⟨k.val - 1, by omega⟩, Nat.sub_add_cancel hpos, hfree⟩
  · rintro ⟨j, hj, hfree⟩
    have hval : k.val - 1 = j.val := by omega
    refine ⟨by omega, ?_⟩
    simp only [hval]
    exact hfree

/-- Settles O21: the two mismatches, and the placement that holds the hops of its set. -/
theorem placeHoldPlacesOnTop : Obligations.PlaceHoldPlacesOnTop := by
  intro k map s
  refine ⟨fun hplaced => ?_, fun j hk hj hfree => ?_, fun hk hbelow => ?_⟩
  · have ho : applyPlaceHold k map s = (s, .mismatch .levelPlaced) := if_pos (Option.isSome_iff_ne_none.mpr hplaced)
    exact applies_of_settle_eq rfl ho rfl
  · have ho : applyPlaceHold k map s = (s, .mismatch .levelBelowFree) := by
      unfold applyPlaceHold
      rw [hk, if_neg (by simp), if_pos ((belowFree_iff s k).mpr ⟨j, hj, hfree⟩)]
    exact applies_of_settle_eq rfl ho rfl
  · have hno : ¬ s.belowFree k = true := fun e => by
      obtain ⟨j, hj, hfree⟩ := (belowFree_iff s k).mp e
      exact hbelow j hj hfree
    have ho : applyPlaceHold k map s = (s.changeHolds (s.holds.set k (some map)), .done) := by
      unfold applyPlaceHold
      rw [hk, if_neg (by simp), if_neg hno]
    have hchanges (i : HopIndex) : s.heldChanges (s.holds.set k (some map)) i =
        (decide (s.hops[i].state ≠ .vacant) && map.getLsbD i && !s.held i) := by
      unfold State.heldChanges
      rw [heldBy_place hk, Bool.and_assoc]
      change (_ && (s.held i != (_ || s.held i))) = _
      unfold Hop.inService
      cases map.getLsbD i <;> cases s.held i <;> rfl
    intro changed
    have hchanged : s.heldChanges (s.holds.set k (some map)) = changed := funext hchanges
    refine applies_of_settle_eq rfl ?_ rfl
    rw [ho, State.changeHolds, hchanged]
    rfl

theorem State.changeHolds_triggers (holds : Vector (Option (BitVec 64)) 8) (s : State) :
    (s.changeHolds holds).triggers = s.triggers ++ ((List.finRange 64).filter (s.heldChanges holds)).map .hop := by
  simp only [State.changeHolds]

/-- Settles O22: the level and those above it are freed, and no hop comes to be held. -/
theorem releaseHoldFreesLevelAndAbove : Obligations.ReleaseHoldFreesLevelAndAbove := by
  intro k s
  refine ⟨fun hfree => ?_, fun hplaced => ?_⟩
  · have ho : applyReleaseHold k s = (s, .mismatch .levelFree) := if_pos (Option.isNone_iff_eq_none.mpr hfree)
    exact applies_of_settle_eq rfl ho rfl
  · have ho : applyReleaseHold k s = (s.changeHolds (freeFrom k s.holds), .done) :=
      if_neg fun e => hplaced (Option.isNone_iff_eq_none.mp e)
    have hchanges (i : HopIndex) : s.heldChanges (freeFrom k s.holds) i =
        (decide (s.hops[i].state ≠ .vacant) && s.held i && !heldBy (freeFrom k s.holds) i) := by
      have hfreed := heldBy_of_freeFrom (k := k) (holds := s.holds) (i := i)
      unfold State.heldChanges State.held Hop.inService
      rw [Bool.and_assoc]
      refine congrArg _ ?_
      cases hafter : heldBy (freeFrom k s.holds) i with
      | true => rw [hfreed hafter]; rfl
      | false => cases heldBy s.holds i <;> rfl
    obtain ⟨t, ht⟩ : ∃ t, s.changeHolds (freeFrom k s.holds) = t := ⟨_, rfl⟩
    have hheld (i : HopIndex) : t.held i = heldBy (freeFrom k s.holds) i := ht ▸ rfl
    rw [ht] at ho
    refine ⟨t, applies_of_settle_eq rfl ho (ht ▸ rfl), fun j => ?_, fun i => ?_, ?_, ?_⟩
    · rw [← ht, State.changeHolds_holds, freeFrom_get, ← ite_not]
      exact if_congr not_le rfl rfl
    · rw [hheld, ← ht, State.changeHolds_hop, hchanges]
      refine if_congr ?_ rfl rfl
      rw [Bool.and_eq_true, Bool.and_eq_true, decide_eq_true_eq, Bool.not_eq_true', and_assoc]
    · have hchanged : (fun i : HopIndex => decide (s.hops[i].state ≠ .vacant) && s.held i && !t.held i) =
          s.heldChanges (freeFrom k s.holds) := funext fun i => by rw [hheld, hchanges]
      rw [hchanged, ← ht, State.changeHolds_triggers]
    · rw [← ht]
      simp only [State.changeHolds]

end Sys2Proof.Machine
end

section
/-! PROOF of O18 and O19. The timers of a hop on a tick: what each expiry does to the record, that the order of the two
is immaterial (R26, R28), and the tick at every place (R27, R29, R80, R97, R111, R169). -/

namespace Sys2Proof.Machine

open Sys2Proof

/-! ### The two expiries at the record -/

section
variable {h : Hop} {held running : Bool}

theorem Hop.clearHoldDue_state (hdue : h.clearHoldDue held = true) :
    held = false ∧ (h.state = .fading ∨ h.state = .faded) := by
  unfold Hop.clearHoldDue at hdue
  simp only [Bool.and_eq_true, Bool.not_eq_true', decide_eq_true_eq] at hdue
  exact hdue.1

/-- The clear-hold expiry of a hop leaves its silence expiry as due as it was. -/
theorem Hop.silenceDue_expireClearHold (hdue : h.clearHoldDue held = true) (running : Bool) :
    h.expireClearHold.silenceDue held running = h.silenceDue held running := by
  obtain ⟨-, hstate⟩ := Hop.clearHoldDue_state hdue
  unfold Hop.silenceDue Hop.silenceCounts Hop.expireClearHold
  rcases hstate with hstate | hstate <;> rw [hstate] <;> rfl

/-- A DOWN hop has no clear-hold expiry. -/
theorem Hop.clearHoldDue_enterDown (h : Hop) (held : Bool) : h.enterDown.clearHoldDue held = false := by
  have hdown : decide (h.enterDown.state = .fading ∨ h.enterDown.state = .faded) = false := rfl
  unfold Hop.clearHoldDue
  rw [hdown, Bool.and_false, Bool.false_and]

/-- DOWN sets every field that a clear-hold expiry sets. -/
theorem Hop.enterDown_expireClearHold (h : Hop) : h.expireClearHold.enterDown = h.enterDown := by
  unfold Hop.expireClearHold
  split <;> rfl

end

/-! ### Two writes of one hop record -/

section
variable {s : State} {i : HopIndex} {x y : Hop}

theorem State.putHop_held (j : HopIndex) : (s.putHop i x).held j = s.held j := by
  unfold State.held
  rw [State.putHop_holds]

theorem State.putHop_lineRunning (l : LineIndex) : (s.putHop i x).lineRunning l = s.lineRunning l := by
  unfold State.lineRunning
  rw [State.putHop_lines]

theorem State.putHop_self : (s.putHop i x).hops[i] = x := by
  rw [State.putHop_hops, table_set_self]

theorem State.countAttention_setHop (old new : Bool) :
    (s.setHop i x).countAttention old new = (s.countAttention old new).setHop i x := by
  unfold State.countAttention
  cases old <;> cases new
  · rfl
  · rw [apply_ite (State.setHop i x)]
    rfl
  · rfl
  · rfl

theorem State.countAttention_trigger (old new : Bool) (t : Trigger) :
    (s.trigger t).countAttention old new = (s.countAttention old new).trigger t := by
  unfold State.countAttention
  cases old <;> cases new
  · rfl
  · rw [apply_ite (State.trigger t)]
    rfl
  · rfl
  · rfl

/-- Of two writes of a record the second stands, where the first clears no flag that the second sets again. -/
theorem State.putHop_putHop (h : x.attention = s.hops[i].attention ∨ x.attention = y.attention) :
    (s.putHop i x).putHop i y = s.putHop i y := by
  have hhops : ∀ u : State, (u.setHop i x).setHop i y = u.setHop i y := fun u => by
    simp only [State.setHop, table_set_set]
  rcases h with h | h
  · rw [State.putHop_same h, State.putHop, State.putHop, State.setHop_hops, table_set_self, h,
      State.countAttention_setHop]
    exact hhops (s.countAttention s.hops[i].attention y.attention)
  · rw [State.putHop_same (h.symm.trans (congrArg Hop.attention State.putHop_self.symm)), State.putHop, State.putHop, h]
    exact hhops _

/-- A trigger on its way neither reads nor moves a hop record. -/
theorem State.trigger_putHop (t : Trigger) :
    (s.trigger t).putHop i x = (s.putHop i x).trigger t :=
  congrArg (State.setHop i x) (State.countAttention_trigger _ _ t)

end

/-! ### The two expiries at the table -/

section
variable {s : State} {i : HopIndex}

/-- The clear-hold timer of hop `i` has come due. -/
def State.clearHoldDueAt (s : State) (i : HopIndex) : Bool := s.hops[i].clearHoldDue (s.held i)

/-- The silence timer of hop `i` has come due. -/
def State.silenceDueAt (s : State) (i : HopIndex) : Bool :=
  s.hops[i].silenceDue (s.held i) (s.lineRunning s.hops[i].config.line)

theorem clearHoldExpiry_due (h : s.clearHoldDueAt i = true) :
    s.clearHoldExpiry i = (s.putHop i s.hops[i].expireClearHold).trigger (.hop i) := if_pos h

theorem clearHoldExpiry_idle (h : s.clearHoldDueAt i = false) : s.clearHoldExpiry i = s :=
  if_neg fun e => Bool.false_ne_true (h.symm.trans e)

theorem silenceExpiry_due (h : s.silenceDueAt i = true) :
    s.silenceExpiry i = (s.putHop i s.hops[i].enterDown).trigger (.hop i) := if_pos h

theorem silenceExpiry_idle (h : s.silenceDueAt i = false) : s.silenceExpiry i = s :=
  if_neg fun e => Bool.false_ne_true (h.symm.trans e)

/-- The clear-hold expiry leaves the silence expiry as due as it was. -/
theorem silenceDueAt_clearHoldExpiry : (s.clearHoldExpiry i).silenceDueAt i = s.silenceDueAt i := by
  cases h : s.clearHoldDueAt i with
  | false => rw [clearHoldExpiry_idle h]
  | true =>
    have hconfig : s.hops[i].expireClearHold.config = s.hops[i].config := by
      unfold Hop.expireClearHold
      split <;> rfl
    rw [clearHoldExpiry_due h, State.putHop_trigger]
    change (State.putHop i _ s).silenceDueAt i = _
    unfold State.silenceDueAt
    rw [State.putHop_self, State.putHop_held, State.putHop_lineRunning, hconfig]
    exact Hop.silenceDue_expireClearHold h _

/-- After its silence expiry a hop has no clear-hold expiry. -/
theorem clearHoldDueAt_silenceExpiry (h : s.silenceDueAt i = true) : (s.silenceExpiry i).clearHoldDueAt i = false := by
  rw [silenceExpiry_due h, State.putHop_trigger]
  change (State.putHop i _ s).clearHoldDueAt i = _
  unfold State.clearHoldDueAt
  rw [State.putHop_self]
  exact Hop.clearHoldDue_enterDown _ _

/-- Both expiries on one tick: the hop goes DOWN, with a trigger for each change of state (log 26). -/
theorem silenceExpiry_clearHoldExpiry (hc : s.clearHoldDueAt i = true) (hs : s.silenceDueAt i = true) :
    (s.clearHoldExpiry i).silenceExpiry i =
      ((s.putHop i s.hops[i].enterDown).trigger (.hop i)).trigger (.hop i) := by
  have hdue := silenceDueAt_clearHoldExpiry.trans hs
  have hself : (s.clearHoldExpiry i).hops[i] = s.hops[i].expireClearHold := by
    rw [clearHoldExpiry_due hc, State.putHop_trigger]
    exact State.putHop_self
  have hflag : s.hops[i].expireClearHold.attention = s.hops[i].attention ∨
      s.hops[i].expireClearHold.attention = s.hops[i].enterDown.attention := by
    unfold Hop.expireClearHold
    split
    · exact .inr rfl
    · exact .inl rfl
  rw [silenceExpiry_due hdue, hself, Hop.enterDown_expireClearHold, clearHoldExpiry_due hc, State.trigger_putHop,
    State.putHop_putHop hflag]

end

/-- Settles O19: by which of the two expiries are due. -/
theorem hopExpiryOrderIsImmaterial : Obligations.HopExpiryOrderIsImmaterial := by
  intro i s a b
  change { a with triggers := b.triggers } = b ∧ _ ∧ (s.clearHoldDueAt i = true → s.silenceDueAt i = true → _)
  have hsent (x : Hop) : ((s.putHop i x).trigger (.hop i)).triggers = s.triggers ++ [.hop i] := by
    rw [State.putHop_trigger]
  have hsame {m : Nat} (hab : a = b) (hm : b.triggers = s.triggers ++ List.replicate m (.hop i)) :
      { a with triggers := b.triggers } = b ∧ ∃ m n : Nat, a.triggers = s.triggers ++ List.replicate m (.hop i) ∧
        b.triggers = s.triggers ++ List.replicate n (.hop i) ∧ (m = 0 ↔ n = 0) :=
    ⟨hab ▸ rfl, m, m, hab ▸ hm, hm, Iff.rfl⟩
  have ha : a = (s.clearHoldExpiry i).silenceExpiry i := rfl
  have hb : b = (s.silenceExpiry i).clearHoldExpiry i := rfl
  clear_value a b
  cases hs : s.silenceDueAt i with
  | false =>
    rw [silenceExpiry_idle (silenceDueAt_clearHoldExpiry.trans hs)] at ha
    rw [silenceExpiry_idle hs] at hb
    cases hc : s.clearHoldDueAt i with
    | false =>
      rw [clearHoldExpiry_idle hc] at ha hb
      obtain ⟨hequal, hcounts⟩ := hsame (m := 0) (ha.trans hb.symm) (by rw [hb]; exact (List.append_nil _).symm)
      exact ⟨hequal, hcounts, fun _ h => nomatch h⟩
    | true =>
      obtain ⟨hequal, hcounts⟩ := hsame (m := 1) (ha.trans hb.symm) (by rw [hb, clearHoldExpiry_due hc, hsent]; rfl)
      exact ⟨hequal, hcounts, fun _ h => nomatch h⟩
  | true =>
    rw [clearHoldExpiry_idle (clearHoldDueAt_silenceExpiry hs), silenceExpiry_due hs] at hb
    cases hc : s.clearHoldDueAt i with
    | false =>
      rw [clearHoldExpiry_idle hc, silenceExpiry_due hs] at ha
      obtain ⟨hequal, hcounts⟩ := hsame (m := 1) (ha.trans hb.symm) (by rw [hb, hsent]; rfl)
      exact ⟨hequal, hcounts, fun h => nomatch h⟩
    | true =>
      rw [silenceExpiry_clearHoldExpiry hc hs, ← hb] at ha
      have hbt : b.triggers = s.triggers ++ [.hop i] := hb ▸ hsent _
      have hat : a.triggers = s.triggers ++ [.hop i, .hop i] := by
        rw [ha, State.trigger, State.triggerIf, if_pos rfl, hbt, List.append_assoc]
        rfl
      have hhop : a.hops[i] = s.hops[i].enterDown := by
        rw [ha, hb]
        exact State.putHop_self
      refine ⟨ha ▸ rfl, ⟨2, 1, hat, hbt, by decide⟩, fun _ _ => ⟨?_, ?_, hat, hbt⟩⟩
      · rw [hhop]
        rfl
      · rw [hhop]
        rfl

/-! ### The tick at a hop (R26 to R30) -/

section
variable {s : State} {i : HopIndex}

/-- Where a hop's timers stand after a tick: nothing moves in a held or VACANT record (R27, R29, R49). -/
theorem Hop.advance_eq (h : Hop) (held running : Bool) :
    h.advance held running =
      if held = true ∨ h.state = .vacant then h
      else
        { h with
          outage := if h.state = .faded ∨ h.state = .down then min (h.outage + 1) 4294967295 else h.outage
          clearHold := h.clearHold.map fun v => min (v + 1) 65535
          silence :=
            if h.state ≠ .down ∧ running = true ∧ h.config.silence ≠ 0 then min (h.silence + 1) 65535
            else h.silence } := by
  unfold Hop.advance
  refine if_ctx_congr (by rw [Bool.or_eq_true, decide_eq_true_eq]) (fun _ => rfl) fun hfree => ?_
  obtain ⟨hheld, hstate⟩ := not_or.mp hfree
  have hcounts : h.silenceCounts held running = true ↔ h.state ≠ .down ∧ running = true ∧ h.config.silence ≠ 0 := by
    simp [Hop.silenceCounts, hheld, hstate, and_assoc]
  rw [if_congr hcounts rfl rfl]
  rfl

theorem Hop.clearHoldDue_iff (h : Hop) (held : Bool) :
    h.clearHoldDue held = true ↔
      held = false ∧ (h.state = .fading ∨ h.state = .faded) ∧
        ∃ v, h.clearHold = some v ∧ max h.config.restore.toNat 1 ≤ v := by
  unfold Hop.clearHoldDue
  simp only [Bool.and_eq_true, Bool.not_eq_true', decide_eq_true_eq, Option.any_eq_true, and_assoc]
  rfl

theorem Hop.silenceDue_iff (h : Hop) (held running : Bool) :
    h.silenceDue held running = true ↔
      held = false ∧ h.state ≠ .vacant ∧ h.state ≠ .down ∧ running = true ∧ h.config.silence ≠ 0 ∧
        h.config.silence.toNat ≤ h.silence := by
  unfold Hop.silenceDue Hop.silenceCounts
  simp only [Bool.and_eq_true, Bool.not_eq_true', decide_eq_true_eq]
  tauto

/-- A clear-hold expiry in FADING or FADED (R26). -/
theorem Hop.expireClearHold_eq (h : Hop) :
    h.expireClearHold =
      { h with
        state := .clear
        bad := if h.state = .faded then 0 else h.bad
        clearHold := none
        attention := h.attention || decide (h.state = .faded) } := by
  unfold Hop.expireClearHold
  split
  · rename_i hs
    rw [decide_eq_true hs, Bool.or_true]
  · rename_i hs
    rw [decide_eq_false hs, Bool.or_false]

/-- The record of hop `i` with its timers moved by a tick. -/
def State.grown (s : State) (i : HopIndex) : Hop :=
  s.hops[i].advance (s.held i) (s.lineRunning s.hops[i].config.line)

theorem State.grown_config : (s.grown i).config = s.hops[i].config := by
  unfold State.grown
  rw [Hop.advance_eq]
  split <;> rfl

theorem State.grown_state : (s.grown i).state = s.hops[i].state := Hop.advance_state _ _ _

theorem State.grown_bad : (s.grown i).bad = s.hops[i].bad := by
  unfold State.grown
  rw [Hop.advance_eq]
  split <;> rfl

theorem State.grown_attention : (s.grown i).attention = s.hops[i].attention := Hop.advance_attention _ _ _

theorem State.advanceHop_hop : (s.advanceHop i).hops[i] = s.grown i := table_set_self _ _ _

/-- A record written over the one that the tick left. -/
theorem State.advanceHop_putHop (x : Hop) : (s.advanceHop i).putHop i x = s.putHop i x := by
  have hwritten : s.advanceHop i = s.putHop i (s.grown i) := (State.putHop_same State.grown_attention).symm
  rw [hwritten]
  exact State.putHop_putHop (.inl State.grown_attention)

theorem reachesClearHold_iff :
    s.reachesClearHold i = true ↔
      s.held i = false ∧ (s.hops[i].state = .fading ∨ s.hops[i].state = .faded) ∧
        ∃ v, (s.grown i).clearHold = some v ∧ max s.hops[i].config.restore.toNat 1 ≤ v := by
  unfold State.reachesClearHold
  rw [State.advanceHop_hop, Hop.clearHoldDue_iff, State.grown_state, State.grown_config]

theorem reachesSilence_iff :
    s.reachesSilence i = true ↔
      s.held i = false ∧ s.hops[i].state ≠ .vacant ∧ s.hops[i].state ≠ .down ∧
        s.lines[s.hops[i].config.line].state = .running ∧ s.hops[i].config.silence ≠ 0 ∧
        s.hops[i].config.silence.toNat ≤ (s.grown i).silence := by
  unfold State.reachesSilence State.lineRunning
  rw [State.advanceHop_hop, Hop.silenceDue_iff, State.grown_state, State.grown_config, decide_eq_true_eq]

/-- The expiries that a tick at hop `i` makes are those that it reaches. -/
theorem hopTick_clearHoldDueAt : (s.advanceHop i).clearHoldDueAt i = s.reachesClearHold i := rfl

theorem hopTick_silenceDueAt : (s.advanceHop i).silenceDueAt i = s.reachesSilence i := by
  unfold State.silenceDueAt State.reachesSilence
  rw [State.advanceHop_hop, State.grown_config]
  rfl

theorem hopTick_idle (hc : s.reachesClearHold i = false) (hs : s.reachesSilence i = false) :
    s.takeTick (.hop i) = s.setHop i (s.grown i) := by
  change ((s.advanceHop i).clearHoldExpiry i).silenceExpiry i = _
  rw [clearHoldExpiry_idle (hopTick_clearHoldDueAt.trans hc), silenceExpiry_idle (hopTick_silenceDueAt.trans hs)]
  rfl

theorem hopTick_clears (hc : s.reachesClearHold i = true) (hs : s.reachesSilence i = false) :
    s.takeTick (.hop i) =
      { (s.putHop i (s.grown i).expireClearHold) with triggers := s.triggers ++ [.hop i] } := by
  change ((s.advanceHop i).clearHoldExpiry i).silenceExpiry i = _
  rw [silenceExpiry_idle (silenceDueAt_clearHoldExpiry.trans (hopTick_silenceDueAt.trans hs)),
    clearHoldExpiry_due (hopTick_clearHoldDueAt.trans hc), State.advanceHop_putHop, State.advanceHop_hop,
    State.putHop_trigger]

theorem hopTick_silences (hc : s.reachesClearHold i = false) (hs : s.reachesSilence i = true) :
    s.takeTick (.hop i) =
      { (s.putHop i (s.grown i).enterDown) with triggers := s.triggers ++ [.hop i] } := by
  change ((s.advanceHop i).clearHoldExpiry i).silenceExpiry i = _
  rw [clearHoldExpiry_idle (hopTick_clearHoldDueAt.trans hc), silenceExpiry_due (hopTick_silenceDueAt.trans hs),
    State.advanceHop_putHop, State.advanceHop_hop, State.putHop_trigger]

theorem hopTick_both (hc : s.reachesClearHold i = true) (hs : s.reachesSilence i = true) :
    s.takeTick (.hop i) =
      { (s.putHop i (s.grown i).enterDown) with triggers := s.triggers ++ [.hop i, .hop i] } := by
  change ((s.advanceHop i).clearHoldExpiry i).silenceExpiry i = _
  rw [silenceExpiry_clearHoldExpiry (hopTick_clearHoldDueAt.trans hc) (hopTick_silenceDueAt.trans hs),
    State.advanceHop_putHop, State.advanceHop_hop, State.putHop_trigger]
  simp only [State.trigger, State.triggerIf, List.append_assoc]
  rfl

end

/-! ### The tick at the other places (R80, R97, R111, R169) -/

section
variable {s : State}

/-- The tick that brings the supervision timer to 1,500 in TRACKING enters HOLDOVER (R84). -/
theorem supervisionTick_eq (s : State) :
    s.takeTick .supervision =
      if s.time.state = .tracking ∧ s.time.supervision.map (fun v => min (v + 1) 1500) = some 1500 then
        { s with
          time := { s.time with state := .holdover, aApp := s.time.aInt, supervision := some 1500 }
          chan := { s.chan with pendingIrq := { s.chan.pendingIrq with timeState := true } } }
      else
        { s with time := { s.time with supervision := s.time.supervision.map fun v => min (v + 1) 1500 } } := by
  have hdue : s.advanceSupervision.time.holdoverDue = true ↔
      s.time.state = .tracking ∧ s.time.supervision.map (fun v => min (v + 1) 1500) = some 1500 := by
    unfold TimeBase.holdoverDue
    rw [Bool.and_eq_true, decide_eq_true_eq, decide_eq_true_eq]
    rfl
  change s.advanceSupervision.holdoverEntry = _
  unfold State.holdoverEntry
  refine if_ctx_congr hdue (fun h => ?_) fun _ => rfl
  obtain ⟨hstate, hreached⟩ := h
  have hreached' : s.time.supervision.map (satInc Config.supervisionLimit) = some 1500 := hreached
  have hmoves : ¬ s.time.state = .holdover := fun e => nomatch hstate.symm.trans e
  unfold State.enterTimeState State.advanceSupervision
  rw [hreached']
  exact if_neg hmoves

theorem slotTick_sent {k : SlotIndex} {p : PathIndex} {q : Half} {t1 : Quad} {n : Nat} {v : Half}
    (hk : s.probe.slots[k] = .sent p q t1 n v) (hn : 2 ≤ n) :
    s.takeTick (.slot k) =
      { s with probe := { s.probe with slots := s.probe.slots.set k (.sent p q t1 (n - 1) v) } } := by
  have hadvanced : s.advanceSlot k = s.setSlot k (.sent p q t1 (n - 1) v) := by
    unfold State.advanceSlot
    rw [hk]
    rfl
  obtain ⟨m, rfl⟩ : ∃ m, n = m + 2 := ⟨n - 2, by omega⟩
  have hslot : (s.advanceSlot k).probe.slots[k] = .sent p q t1 (m + 1) v := by
    rw [hadvanced]
    exact table_set_self _ _ _
  change (s.advanceSlot k).echoTimeout k = _
  unfold State.echoTimeout
  rw [hslot]
  exact hadvanced

theorem slotTick_unsent {k : SlotIndex} (hk : ∀ p q t1 n v, s.probe.slots[k] ≠ .sent p q t1 n v) :
    s.takeTick (.slot k) = s := by
  have htick : s.probe.slots[k].tick = s.probe.slots[k] := by
    cases h : s.probe.slots[k] with
    | sent p q t1 n v => exact absurd h (hk p q t1 n v)
    | _ => rfl
  have hadvanced : s.advanceSlot k = s := by
    unfold State.advanceSlot
    rw [htick]
    exact congrArg (fun slots => s.setProbe { s.probe with slots := slots }) (table_set_get _ _)
  change (s.advanceSlot k).echoTimeout k = s
  rw [hadvanced]
  unfold State.echoTimeout
  cases h : s.probe.slots[k] with
  | sent p q t1 n v => exact absurd h (hk p q t1 n v)
  | _ => rfl

/-- A probe timer that runs on, or stands still, is not due. -/
theorem Path.probeDue_false {x : Path} (h : x.timer ≠ some 0) : x.probeDue = false := by
  unfold Path.probeDue
  rw [decide_eq_false h, Bool.and_false]

theorem pathTick_runs {p : PathIndex} {v : Nat} (hp : s.paths[p].timer = some v) (hv : 2 ≤ v) :
    s.takeTick (.path p) = { s with paths := s.paths.set p { s.paths[p] with timer := some (v - 1) } } := by
  have hadvanced : s.advancePath p = s.setPath p { s.paths[p] with timer := some (v - 1) } := by
    unfold State.advancePath
    rw [hp]
    rfl
  have hleft : some (v - 1) ≠ some 0 := fun e => by
    have := Option.some.inj e
    omega
  have hdue : (s.advancePath p).paths[p].probeDue = false := by
    rw [hadvanced, State.setPath_paths, table_set_self]
    exact Path.probeDue_false hleft
  change (s.advancePath p).probeTimerExpiry p = _
  unfold State.probeTimerExpiry
  rw [hdue]
  exact hadvanced

theorem pathTick_stopped {p : PathIndex} (hp : s.paths[p].timer = none) : s.takeTick (.path p) = s := by
  have hadvanced : s.advancePath p = s := by
    have hkept : { s.paths[p] with timer := s.paths[p].timer.map (· - 1) } = s.paths[p] :=
      congrArg (fun timer => { s.paths[p] with timer := timer }) (hp ▸ rfl)
    unfold State.advancePath
    rw [hkept, State.setPath_get]
  have hdue : s.paths[p].probeDue = false := Path.probeDue_false (hp ▸ nofun)
  change (s.advancePath p).probeTimerExpiry p = s
  rw [hadvanced]
  unfold State.probeTimerExpiry
  rw [hdue]
  rfl

/-- Before its 50th tick an outstanding read waits one tick more (R169). -/
theorem channelTick_waits (hw : s.chan.work.waited < 49) :
    s.takeTick .channel = s.setChan { s.chan with work := s.chan.work.tick } := by
  change s.advanceChannel.readTimeout = s.advanceChannel
  have hwork := advanceChannel_work s
  unfold State.readTimeout
  rw [hwork]
  cases h : s.chan.work with
  | fetching tag address ticks skipped =>
    rw [h] at hw
    exact if_neg (Nat.not_le.mpr (Nat.succ_lt_succ hw))
  | reading tag b ticks =>
    rw [h] at hw
    exact if_neg (Nat.not_le.mpr (Nat.succ_lt_succ hw))
  | _ => rfl

end

/-- Settles O18: the tick at each place, by what it reaches. -/
theorem timersAdvanceAndExpire : Obligations.TimersAdvanceAndExpire := by
  refine ⟨fun x s h => ⟨?_, fun i hx => ⟨?_, ?_⟩⟩, fun x s => ⟨_, rfl, fun y => ?_⟩, ?hop, fun s ho => ?supervision,
    fun k p q t1 n v s ho hk hn => ?sent, fun p v s ho hp hv => ?runs, fun k s ho hk => ?unsent,
    fun p s ho hp => ?stopped, fun s ho hw => ?channel⟩
  · exact congrArg Host.Outcome.next (State.tick_of_none h)
  · subst hx
    refine congrArg Host.Outcome.next ?_
    rw [State.tick_of_none h, ite_self]
  · subst hx
    refine congrArg Host.Outcome.next ?_
    rw [State.tick_of_none h, ite_self]
  · rcases eq_or_ne (s.ticks.owed x) 0 with h | h
    · rw [State.tick_of_none h]
      split
      · rename_i hy
        rw [hy, h]
      · rfl
    · rw [State.tick_of_owed h]
      exact Ticks.owed_take s.ticks x y
  case hop =>
    intro i s ho h grown
    have hgrown : s.grown i = grown := by
      unfold State.grown State.lineRunning
      rw [Hop.advance_eq]
      simp only [decide_eq_true_eq]
      rfl
    have hclear := reachesClearHold_iff (s := s) (i := i)
    have hsilence := reachesSilence_iff (s := s) (i := i)
    rw [hgrown] at hclear hsilence
    have htick {t : State} (ht : s.takeTick (.hop i) = t) : { s.tick (.hop i) with ticks := s.ticks } = t :=
      (State.tick_effect ho).trans ht
    have hstate : grown.state = h.state := hgrown ▸ State.grown_state
    have hbad : grown.bad = h.bad := hgrown ▸ State.grown_bad
    have hattention : grown.attention = h.attention := hgrown ▸ State.grown_attention
    have hconfig : grown.config = h.config := hgrown ▸ State.grown_config
    clear_value grown
    intro clearDue silenceDue cleared silenced
    have hcleared : (s.grown i).expireClearHold = cleared := by
      rw [hgrown, Hop.expireClearHold_eq, hstate, hbad, hattention]
    have hsilenced : (s.grown i).enterDown = silenced := by
      have hlimit : grown.config.effectiveBadLimit = max h.config.badLimit.toNat 1 := hconfig ▸ rfl
      rw [hgrown, Hop.enterDown, hlimit]
    have hno {p : Prop} {b : Bool} (hiff : b = true ↔ p) (hp : ¬ p) : b = false :=
      Bool.eq_false_iff.mpr (mt hiff.mp hp)
    refine ⟨⟨_, rfl, fun hc hs => htick ?_, fun hc hs => htick ?_, fun hc hs => htick ?_, fun hc hs => htick ?_⟩,
      ?_, ?_, ?_, ?_⟩
    · exact (hopTick_idle (hno hclear hc) (hno hsilence hs)).trans (congrArg (fun x => s.setHop i x) hgrown)
    · rw [hopTick_clears (hclear.mpr hc) (hno hsilence hs), hcleared]
    · rw [hopTick_silences (hno hclear hc) (hsilence.mpr hs), hsilenced]
    · rw [hopTick_both (hclear.mpr hc) (hsilence.mpr hs), hsilenced]
    · exact fun hc => congrArg Host.Outcome.next (if_pos (hclear.mpr hc))
    · exact fun hc => congrArg Host.Outcome.next (if_neg (mt hclear.mp hc))
    · exact fun hs => congrArg Host.Outcome.next (if_pos (hsilence.mpr hs))
    · exact fun hs => congrArg Host.Outcome.next (if_neg (mt hsilence.mp hs))
  case supervision => exact ⟨_, rfl, (State.tick_effect ho).trans (supervisionTick_eq s)⟩
  case sent => exact ⟨_, rfl, (State.tick_effect ho).trans (slotTick_sent hk hn)⟩
  case runs => exact ⟨_, rfl, (State.tick_effect ho).trans (pathTick_runs hp hv)⟩
  case unsent => exact ⟨_, rfl, (State.tick_effect ho).trans (slotTick_unsent hk)⟩
  case stopped => exact ⟨_, rfl, (State.tick_effect ho).trans (pathTick_stopped hp)⟩
  case channel =>
    refine ⟨_, rfl, (State.tick_effect ho).trans ((channelTick_waits hw).trans ?_)⟩
    refine congrArg (fun w => s.setChan { s.chan with work := w }) ?_
    cases s.chan.work <;> rfl

end Sys2Proof.Machine
end

section
/-! PROOF of O33, O34, O35 and O40. The Probe Engine: the ends of its timers (R97, R98, R111), the transmit arbiter
(R102 to R104, R108), the step signal (R118, R133) and the device requests (R99, R120). -/

namespace Sys2Proof.Machine

open Sys2Proof

/-! ### The lowest-numbered place that passes -/

theorem find?_finRange_eq_some {n : Nat} {passes : Fin n → Bool} {k : Fin n} :
    (List.finRange n).find? passes = some k ↔ passes k = true ∧ ∀ j < k, passes j = false :=
  Fin.find?_eq_find?_finRange ▸ Fin.find?_eq_some_iff

theorem find?_finRange_eq_none {n : Nat} {passes : Fin n → Bool} :
    (List.finRange n).find? passes = none ↔ ∀ k, passes k = false :=
  Fin.find?_eq_find?_finRange ▸ Fin.find?_eq_none_iff

section
variable {s : State}

theorem freeSlot_eq_some {k : SlotIndex} (hk : s.probe.slots[k] = .free) (h : ∀ j < k, s.probe.slots[j] ≠ .free) :
    s.freeSlot = some k :=
  find?_finRange_eq_some.mpr ⟨decide_eq_true hk, fun j hj => decide_eq_false (h j hj)⟩

theorem freeSlot_eq_none (h : ∀ k : SlotIndex, s.probe.slots[k] ≠ .free) : s.freeSlot = none :=
  find?_finRange_eq_none.mpr fun k => decide_eq_false (h k)

theorem slotHolds_iff {p : PathIndex} {q : Half} :
    s.slotHolds p q = true ↔ ∃ k : SlotIndex, s.probe.slots[k].key? = some (p, q) := by
  unfold State.slotHolds
  rw [List.any_eq_true]
  constructor
  · rintro ⟨x, hmem, hkey⟩
    obtain ⟨k, hk, rfl⟩ := Vector.getElem_of_mem (Vector.mem_toList_iff.mp hmem)
    exact ⟨⟨k, hk⟩, of_decide_eq_true hkey⟩
  · rintro ⟨k, hkey⟩
    exact ⟨s.probe.slots[k], Vector.mem_toList_iff.mpr (Vector.getElem_mem k.isLt), decide_eq_true hkey⟩

end

/-! ### The echo timeout (R111) -/

section
variable {s : State} {k : SlotIndex} {p : PathIndex} {q : Half} {t1 : Quad} {n : Nat} {noted : Half}

/-- The tick that ends the echo timeout of a SENT slot: the slot freed and counted, and the loss judged unless the path
was rewritten since. -/
theorem slotTick_times_out (hk : s.probe.slots[k] = .sent p q t1 n noted) (hn : n ≤ 1) :
    s.takeTick (.slot k) =
      let freed := (s.setSlot k .free).countDevice fun c => { c with timeouts := countUp c.timeouts }
      if s.paths[p].generation = noted then
        (freed.setPath p s.paths[p].countLoss).triggerIf
          (decide (s.paths[p].lost ≠ s.paths[p].countLoss.lost)) (.path p)
      else freed := by
  have hadvanced : s.advanceSlot k = s.setSlot k (.sent p q t1 0 noted) := by
    have hzero : n - 1 = 0 := by omega
    unfold State.advanceSlot
    rw [hk, Slot.tick, hzero]
  have hslot : (s.advanceSlot k).probe.slots[k] = .sent p q t1 0 noted := by
    rw [hadvanced]
    exact table_set_self _ _ _
  have hfreed : (s.advanceSlot k).setSlot k .free = s.setSlot k .free := by
    rw [hadvanced]
    simp only [State.setSlot, State.setProbe, table_set_set]
  change (s.advanceSlot k).echoTimeout k = _
  unfold State.echoTimeout
  rw [hslot]
  dsimp only
  rw [hfreed, hadvanced]
  rfl

theorem Path.countLoss_eq (x : Path) :
    x.countLoss =
      { x with
        loss := if x.loss < max x.config.lossLimit.toNat 1 then x.loss + 1 else x.loss
        lost := x.lost || decide (max x.config.lossLimit.toNat 1 ≤
          if x.loss < max x.config.lossLimit.toNat 1 then x.loss + 1 else x.loss) } := rfl

end

/-! ### The probe timer (R97, R98) -/

section
variable {s : State} {p : PathIndex}

theorem Path.probeDue_iff (x : Path) :
    x.probeDue = true ↔ x.body ≠ .vacant ∧ x.config.interval ≠ 0 ∧ x.timer = some 0 := by
  unfold Path.probeDue Path.nonVacant
  simp only [Bool.and_eq_true, decide_eq_true_eq, and_assoc]

/-- A running timer is reloaded with the slow interval while the path is LOST or unusable for class 0 (R97). -/
theorem fullInterval_runs (hbody : s.paths[p].body ≠ .vacant) (hinterval : s.paths[p].config.interval ≠ 0) :
    s.fullInterval p = some
      (if s.paths[p].lost = true ∨ s.pathUsable 0 p = false then min (8 * s.paths[p].config.interval.toNat) 8000
       else s.paths[p].config.interval.toNat) := by
  have hvacant : s.paths[p].nonVacant = true := decide_eq_true hbody
  have hnat : s.paths[p].config.interval.toNat ≠ 0 := fun e => hinterval (BitVec.eq_of_toNat_eq e)
  unfold State.fullInterval
  have hruns : ¬ (!s.paths[p].nonVacant || decide (s.paths[p].config.interval.toNat = 0)) = true := by
    rw [hvacant, decide_eq_false hnat]
    exact Bool.false_ne_true
  dsimp only
  rw [if_neg hruns, apply_ite some]
  exact if_congr (by rw [Bool.or_eq_true, Bool.not_eq_true']) rfl rfl

/-- The tick that brings a running probe timer to 0 reloads it and acts on its expiry. -/
theorem pathTick_expires {v : Nat} (hbody : s.paths[p].body ≠ .vacant) (hinterval : s.paths[p].config.interval ≠ 0)
    (ht : s.paths[p].timer = some v) (hv : v ≤ 1) :
    s.takeTick (.path p) = (s.setPath p { s.paths[p] with timer := s.fullInterval p }).queueProbe p := by
  have hadvanced : s.advancePath p = s.setPath p { s.paths[p] with timer := some 0 } := by
    have hzero : v - 1 = 0 := by omega
    unfold State.advancePath
    rw [ht, Option.map_some, hzero]
  have hpath : (s.advancePath p).paths[p] = { s.paths[p] with timer := some 0 } := by
    rw [hadvanced, State.setPath_paths, table_set_self]
  have hdue : (s.advancePath p).paths[p].probeDue = true := by
    rw [hpath, Path.probeDue_iff]
    exact ⟨hbody, hinterval, rfl⟩
  have hinterval' : (s.advancePath p).fullInterval p = s.fullInterval p := by
    refine fullInterval_congr ?_ ?_ ?_ rfl rfl rfl rfl <;> rw [hpath]
  change (s.advancePath p).probeTimerExpiry p = _
  unfold State.probeTimerExpiry
  rw [if_pos hdue, State.reloadTimer, hinterval', hpath, hadvanced, State.setPath_setPath]

/-- The record that the deferral of a probe leaves: the device counts it (R98). -/
def State.deferProbe (s : State) : State := s.countDevice fun c => { c with deferred := countUp c.deferred }

theorem queueProbe_silent (h : s.probe.terminalId = 0 ∨ s.time.state = .unset) : s.queueProbe p = s := by
  unfold State.queueProbe
  exact if_pos (by simpa using h)

section
variable (hid : s.probe.terminalId ≠ 0) (htime : s.time.state ≠ .unset)
include hid htime

theorem not_silent : ¬ (decide (s.probe.terminalId = 0) || decide (s.time.state = .unset)) = true := by
  rw [Bool.or_eq_true, decide_eq_true_eq, decide_eq_true_eq]
  exact not_or.mpr ⟨hid, htime⟩

theorem queueProbe_inUse {k : SlotIndex} (hk : s.probe.slots[k].key? = some (p, s.paths[p].nextSeq)) :
    s.queueProbe p = s.deferProbe := by
  unfold State.queueProbe
  dsimp only
  rw [if_neg (not_silent hid htime), if_pos (slotHolds_iff.mpr ⟨k, hk⟩)]
  rfl

theorem queueProbe_full (h : ∀ k : SlotIndex, s.probe.slots[k] ≠ .free) : s.queueProbe p = s.deferProbe := by
  unfold State.queueProbe
  dsimp only
  rw [if_neg (not_silent hid htime), freeSlot_eq_none h, ite_self]
  rfl

theorem queueProbe_queues {k : SlotIndex}
    (hfresh : ∀ j : SlotIndex, s.probe.slots[j].key? ≠ some (p, s.paths[p].nextSeq))
    (hk : s.probe.slots[k] = .free) (hfirst : ∀ j < k, s.probe.slots[j] ≠ .free) :
    s.queueProbe p =
      (s.setSlot k (.queued p s.paths[p].nextSeq)).setPath p
        { s.paths[p] with nextSeq := s.paths[p].nextSeq + 1 } := by
  have hno : ¬ s.slotHolds p s.paths[p].nextSeq = true := fun e => by
    obtain ⟨j, hj⟩ := slotHolds_iff.mp e
    exact hfresh j hj
  unfold State.queueProbe
  dsimp only
  rw [if_neg (not_silent hid htime), if_neg hno, freeSlot_eq_some hk hfirst]

end

end

/-- Settles O34: the tick that ends each timer, and the rows that name it. -/
theorem probeTimersExpireAndEchoesTimeOut : Obligations.ProbeTimersExpireAndEchoesTimeOut := by
  refine ⟨fun k p q t1 n noted s ho hk hn => ?slot, fun k s h => ?early, fun p v s => ?path, fun p s h => ?stopped⟩
  case slot =>
    intro x c limit loss freed
    have hreaches : s.probe.slots[k].reachesTimeout = true := by
      rw [hk]
      exact decide_eq_true hn
    have htick {t : State} (ht : s.takeTick (.slot k) = t) : { s.tick (.slot k) with ticks := s.ticks } = t :=
      (State.tick_effect ho).trans ht
    have hends := slotTick_times_out hk hn
    have hjudged {lost : Bool} (hlost : (x.lost || decide (limit ≤ loss)) = lost) :
        x.countLoss = { x with loss := loss, lost := lost } := hlost ▸ rfl
    refine ⟨congrArg Host.Outcome.next (if_pos hreaches), _, rfl, fun hg => htick (hends.trans (if_neg hg)),
      fun hg hstays => htick (hends.trans ((if_pos hg).trans ?_)),
      fun hg hlost hlimit => htick (hends.trans ((if_pos hg).trans ?_))⟩
    · have hkept : (x.lost || decide (limit ≤ loss)) = x.lost := by
        rcases hstays with hl | hl
        · rw [hl, Bool.true_or]
        · rw [decide_eq_false (Nat.not_le.mpr hl), Bool.or_false]
      have hcounted := hjudged hkept
      have hsame : decide (x.lost ≠ x.countLoss.lost) = false := by
        rw [hcounted]
        exact decide_eq_false (not_not.mpr rfl)
      change ((freed.setPath p x.countLoss).triggerIf (decide (x.lost ≠ x.countLoss.lost)) (.path p)) = _
      rw [hsame, hcounted]
      rfl
    · have hcounted := hjudged (lost := true) (by rw [decide_eq_true hlimit, Bool.or_true])
      have hchanges : decide (x.lost ≠ x.countLoss.lost) = true := by
        rw [hcounted, hlost]
        exact decide_eq_true Bool.false_ne_true
      change ((freed.setPath p x.countLoss).triggerIf (decide (x.lost ≠ x.countLoss.lost)) (.path p)) = _
      rw [hchanges, hcounted]
      rfl
  case early =>
    refine congrArg Host.Outcome.next ?_
    rcases h with ho | hk
    · rw [State.tick_of_none ho, ite_self]
    · refine if_neg fun hreaches => ?_
      cases hslot : s.probe.slots[k] with
      | sent p q t1 n noted =>
        rw [hslot] at hreaches
        have hleft := hk p q t1 n noted hslot
        exact absurd (of_decide_eq_true hreaches) (by omega)
      | _ =>
        rw [hslot] at hreaches
        exact Bool.false_ne_true hreaches
  case path =>
    intro x c reloaded deferred ho hbody hinterval htimer hv
    have hdue : (s.advancePath p).paths[p].probeDue = true := by
      have hzero : v - 1 = 0 := by omega
      rw [State.advancePath_path, Path.probeDue_iff]
      refine ⟨hbody, hinterval, ?_⟩
      rw [htimer, Option.map_some, hzero]
    have hreloaded : { s.paths[p] with timer := s.fullInterval p } = reloaded :=
      congrArg (fun timer => { s.paths[p] with timer := timer }) (fullInterval_runs hbody hinterval)
    have hexpires := pathTick_expires hbody hinterval htimer hv
    rw [hreloaded] at hexpires
    obtain ⟨s', hs'⟩ : ∃ s' : State, s.setPath p reloaded = s' := ⟨_, rfl⟩
    have hpath : s'.paths[p] = reloaded := by rw [← hs', State.setPath_paths, table_set_self]
    have hprobe : s'.probe = s.probe := hs' ▸ rfl
    have htime : s'.time = s.time := hs' ▸ rfl
    rw [hs'] at hexpires
    have htick {t : State} (ht : s'.queueProbe p = t) : { s.tick (.path p) with ticks := s.ticks } = t :=
      (State.tick_effect ho).trans (hexpires.trans ht)
    have hdeferred : s'.deferProbe = deferred := hs' ▸ rfl
    refine ⟨congrArg Host.Outcome.next (if_pos hdue), _, rfl, fun h => htick ?_, fun hid hset =>
      ⟨fun k hk => htick ?_, fun hfull => htick ?_, fun k hfresh hk hfirst => htick ?_⟩⟩
    · rw [queueProbe_silent (by rw [hprobe, htime]; exact h), ← hs']
      rfl
    · rw [← hdeferred]
      refine queueProbe_inUse (k := k) (by rw [hprobe]; exact hid) (by rw [htime]; exact hset) ?_
      rw [hprobe, hpath]
      exact hk
    · rw [← hdeferred]
      exact queueProbe_full (by rw [hprobe]; exact hid) (by rw [htime]; exact hset) (by rw [hprobe]; exact hfull)
    · have hqueued := queueProbe_queues (s := s') (p := p) (k := k) (by rw [hprobe]; exact hid)
        (by rw [htime]; exact hset)
        (by rw [hprobe, hpath]; exact hfresh) (by rw [hprobe]; exact hk) (by rw [hprobe]; exact hfirst)
      rw [hqueued, hpath, ← hs']
      exact State.setPath_setPath p reloaded { reloaded with nextSeq := x.nextSeq + 1 }
        (s.setSlot k (.queued p x.nextSeq))
  case stopped =>
    refine congrArg Host.Outcome.next ?_
    rcases h with ho | h
    · rw [State.tick_of_none ho, ite_self]
    · refine if_neg fun hdue => ?_
      rw [State.advancePath_path, Path.probeDue_iff] at hdue
      obtain ⟨hbody, hinterval, htimer⟩ := hdue
      obtain ⟨v, hv, hzero⟩ := Option.map_eq_some_iff.mp htimer
      rcases h with h | h | h
      · exact hbody h
      · exact hinterval h
      · have hleft := h v hv
        omega

/-! ### The transmit arbiter (R102 to R104, R108) -/

section
variable {s : State}

theorem transmitGrant_busy (h : s.probe.transmitter ≠ none) : s.transmitGrant = s :=
  if_pos (Option.isSome_iff_ne_none.mpr h)

theorem transmitGrant_echo {e : EchoEntry} {rest : List EchoEntry} (hidle : s.probe.transmitter = none)
    (hb : s.probe.backlog = e :: rest) : s.transmitGrant = s.sendEcho e rest := by
  unfold State.transmitGrant
  rw [hidle, hb]
  rfl

theorem transmitGrant_probe {k : SlotIndex} {p : PathIndex} {q : Half} (hidle : s.probe.transmitter = none)
    (hb : s.probe.backlog = []) (hk : s.probe.slots[k] = .queued p q)
    (hfirst : ∀ j < k, s.probe.slots[j].isQueued = false) : s.transmitGrant = s.sendProbe k p q := by
  have hqueued : s.queuedSlot = some k := find?_finRange_eq_some.mpr ⟨by rw [hk]; rfl, hfirst⟩
  unfold State.transmitGrant
  rw [hidle, hb, hqueued]
  dsimp only
  rw [hk]
  rfl

end

/-- Settles O35: the oldest echo, else the lowest QUEUED slot; and the end of a transmission. -/
theorem transmitArbiterSendsEchoesBeforeProbes : Obligations.TransmitArbiterSendsEchoesBeforeProbes := by
  intro s g c
  refine ⟨fun h => congrArg Host.Outcome.next (transmitGrant_busy h), fun e rest hidle hb => ⟨fun hstep => ?_,
      fun hstep => ?_⟩,
    fun k p q hidle hb hk hfirst => congrArg Host.Outcome.next (transmitGrant_probe hidle hb hk hfirst),
    fun bytes h => ?_⟩
  · exact congrArg Host.Outcome.next ((transmitGrant_echo hidle hb).trans (if_pos hstep))
  · exact congrArg Host.Outcome.next ((transmitGrant_echo hidle hb).trans (if_neg (not_not.mpr hstep)))
  · change execFrameTransmissionEnd s = _
    unfold execFrameTransmissionEnd
    rw [h]
    rfl

/-! ### The step signal (R118, R133) -/

/-- Settles O33: each receiver takes its oldest signal. -/
theorem stepSignalsInvalidateOldStamps : Obligations.StepSignalsInvalidateOldStamps := by
  intro s e rest c
  refine ⟨fun h => ?_, fun h => ?_⟩
  · change execStepSignalProbeEngine s = _
    unfold execStepSignalProbeEngine
    rw [h]
    rfl
  · refine ⟨{ s with routes := s.routes.map Route.invalidate, routeTaken := e, routeSignals := rest }, ?_, rfl, rfl,
      fun i => table_map s.routes Route.invalidate i, rfl⟩
    change execStepSignalRouteTable s = _
    unfold execStepSignalRouteTable
    rw [h]

/-! ### The device requests (R99, R120) -/

theorem freeSlots_all (s : State) :
    s.freeSlots (fun _ => true) = s.setProbe { s.probe with slots := Vector.replicate 32 .free } := by
  have hall : (s.probe.slots.map fun _ => Slot.free) = Vector.replicate 32 .free :=
    table_ext fun k => by rw [table_map]; simp
  exact congrArg (fun slots => s.setProbe { s.probe with slots := slots }) hall

/-- The checks are made in their order, and the first that fails gives the cause (R171). -/
theorem firstFailure_cons (fails : Bool) (cause : Cause) (checks : List (Bool × Cause)) :
    firstFailure ((fails, cause) :: checks) = if fails = true then some cause else firstFailure checks := by
  unfold firstFailure
  cases fails <;> rfl

theorem firstFailure_nil : firstFailure [] = none := rfl

theorem deviceCheck_eq (image : DeviceImage) :
    DeviceImage.check image = if 4095 < image.lead.toNat then some .lead else none := by
  unfold DeviceImage.check
  rw [firstFailure_cons, firstFailure_nil]
  exact if_congr decide_eq_true_iff rfl rfl

/-- Settles O40: the lead check, the written engine, and the image. -/
theorem deviceRequestsWriteAndReadTheEngine : Obligations.DeviceRequestsWriteAndReadTheEngine := by
  intro s
  refine ⟨fun image => ⟨fun hlead => applies_of_fault rfl ?_, fun hlead => applies_of_pass rfl ?_ ?_ rfl⟩,
    applies_of_settle_eq rfl rfl rfl, applies_of_settle_eq rfl rfl rfl⟩
  · exact (deviceCheck_eq image).trans (if_pos hlead)
  · exact (deviceCheck_eq image).trans (if_neg (Nat.not_lt.mpr hlead))
  · unfold applyWriteDevice
    by_cases hid : image.terminalId = s.probe.terminalId
    · rw [if_neg (not_not.mpr hid), if_pos hid]
      rfl
    · rw [if_pos hid, if_neg hid, freeSlots_all]
      rfl

end Sys2Proof.Machine
end

section
/-! PROOF of O36, O37 and O38. Probe and echo frames: a built frame reads back as built (R183), a received one is dealt
with by the first case that applies (R105, R106, R109), and a matched echo (R110, R113, R117). -/

namespace Sys2Proof.Machine

open Sys2Proof

/-! ### Bytes, the most significant first -/

theorem beNat_append_byte (l : List Byte) (b : Byte) : beNat (l ++ [b]) = beNat l * 256 + b.toNat :=
  List.foldl_append ..

theorem beNat_beBytes (n x : Nat) : beNat (beBytes n x) = x % 256 ^ n := by
  induction n generalizing x with
  | zero => exact (Nat.mod_one x).symm
  | succ n ih =>
    have hbytes : beBytes (n + 1) x = beBytes n (x / 256) ++ [BitVec.ofNat 8 x] := List.reverse_cons ..
    have hmod : x % (256 * 256 ^ n) = x % 256 + 256 * (x / 256 % 256 ^ n) := Nat.mod_mul
    rw [hbytes, beNat_append_byte, ih, BitVec.toNat_ofNat, pow_succ' 256 n, hmod, Nat.add_comm, Nat.mul_comm]

theorem beField_append_right {a b : List Byte} {off n : Nat} (h : a.length ≤ off) :
    beField (a ++ b) off n = beField b (off - a.length) n := by
  unfold beField
  rw [List.drop_append, List.drop_eq_nil_of_le h, List.nil_append]

theorem beField_append_left {a b : List Byte} {off n : Nat} (h : off + n ≤ a.length) :
    beField (a ++ b) off n = beField a off n := by
  unfold beField
  rw [List.drop_append_of_le_length (by omega), List.take_append_of_le_length (by rw [List.length_drop]; omega)]

theorem beField_beBytes (n x : Nat) : beField (beBytes n x) 0 n = x % 256 ^ n := by
  unfold beField
  rw [List.drop_zero, List.take_of_length_le (beBytes_length n x).le, beNat_beBytes]

/-- A field whose bytes follow `a`. -/
theorem beField_field {a rest : List Byte} {off n x : Nat} (h : a.length = off) :
    beField (a ++ (beBytes n x ++ rest)) off n = x % 256 ^ n := by
  rw [beField_append_right h.le, h, Nat.sub_self, beField_append_left (by rw [beBytes_length, Nat.zero_add]),
    beField_beBytes]

/-! ### The sum of the halfwords -/

/-- The halfwords of bytes that end at a halfword's end, and of those that follow. -/
theorem halfwordSum_append (m : Nat) {a : List Byte} (h : a.length = 2 * m) (b : List Byte) :
    halfwordSum (a ++ b) = halfwordSum a + halfwordSum b := by
  induction m generalizing a with
  | zero =>
    obtain rfl : a = [] := List.eq_nil_of_length_eq_zero h
    exact (BitVec.zero_add _).symm
  | succ m ih =>
    match a, h with
    | x :: y :: rest, h =>
      have hrest : rest.length = 2 * m := by
        simp only [List.length_cons] at h
        omega
      change (x ++ y : BitVec 16) + halfwordSum (rest ++ b) = (x ++ y : BitVec 16) + halfwordSum rest + halfwordSum b
      rw [ih hrest, BitVec.add_assoc]

theorem halfwordSum_beBytes (h : Half) : halfwordSum (beBytes 2 h.toNat) = h := by
  have hlt := h.isLt
  change (BitVec.ofNat 8 (h.toNat / 256) ++ BitVec.ofNat 8 h.toNat : BitVec 16) + 0#16 = h
  rw [BitVec.add_zero]
  apply BitVec.eq_of_toNat_eq
  rw [toNat_append_eq, BitVec.toNat_ofNat, BitVec.toNat_ofNat]
  omega

/-! ### A built frame (R183) -/

section
variable (kind origin destination port pathIndex : Byte) (seq : Half) (t1 t2 t3 : Quad)

/-- The bytes of a frame before its check halfword. -/
def frameBody : List Byte :=
  [kind, origin, destination, port, pathIndex, 0] ++ beBytes 2 seq.toNat ++
    beBytes 8 t1.toNat ++ beBytes 8 t2.toNat ++ beBytes 8 t3.toNat ++ List.replicate 30 0

theorem buildFrame_eq :
    buildFrame kind origin destination port pathIndex seq t1 t2 t3 =
      frameBody kind origin destination port pathIndex seq t1 t2 t3 ++
        beBytes 2 (-(halfwordSum (frameBody kind origin destination port pathIndex seq t1 t2 t3))).toNat := rfl

theorem frameBody_length : (frameBody kind origin destination port pathIndex seq t1 t2 t3).length = 62 := by
  simp only [frameBody, List.length_append, List.length_cons, List.length_nil, beBytes_length, List.length_replicate]

end

/-- A byte of the header. -/
theorem ofNat_beNat_byte (b : Byte) : BitVec.ofNat 8 (beNat [b]) = b := by
  change BitVec.ofNat 8 (0 * 256 + b.toNat) = b
  rw [Nat.zero_mul, Nat.zero_add, BitVec.ofNat_toNat, BitVec.setWidth_eq]

/-- The reading of a frame gives its header and stamps back, whatever its check halfword (R183). -/
theorem parseFrame_frameBody (kind origin destination port pathIndex : Byte) (seq : Half) (t1 t2 t3 : Quad)
    (check : List Byte) :
    parseFrame (frameBody kind origin destination port pathIndex seq t1 t2 t3 ++ check) =
      ⟨kind, origin, destination, pathIndex, seq, t1, t2, t3⟩ := by
  obtain ⟨frame, hframe⟩ : ∃ frame, frameBody kind origin destination port pathIndex seq t1 t2 t3 ++ check = frame :=
    ⟨_, rfl⟩
  have hfield {a rest : List Byte} {off n x : Nat} (hshape : a ++ (beBytes n x ++ rest) = frame)
      (ha : a.length = off) : beField frame off n = x % 256 ^ n := hshape ▸ beField_field ha
  have hseq : beField frame 6 2 = seq.toNat % 256 ^ 2 :=
    hfield (a := [kind, origin, destination, port, pathIndex, 0])
      (rest := beBytes 8 t1.toNat ++ beBytes 8 t2.toNat ++ beBytes 8 t3.toNat ++ List.replicate 30 0 ++ check)
      (by rw [← hframe]; simp only [frameBody, List.append_assoc]) rfl
  have ht1 : beField frame 8 8 = t1.toNat % 256 ^ 8 :=
    hfield (a := [kind, origin, destination, port, pathIndex, 0] ++ beBytes 2 seq.toNat)
      (rest := beBytes 8 t2.toNat ++ beBytes 8 t3.toNat ++ List.replicate 30 0 ++ check)
      (by rw [← hframe]; simp only [frameBody, List.append_assoc]) rfl
  have ht2 : beField frame 16 8 = t2.toNat % 256 ^ 8 :=
    hfield (a := [kind, origin, destination, port, pathIndex, 0] ++ beBytes 2 seq.toNat ++ beBytes 8 t1.toNat)
      (rest := beBytes 8 t3.toNat ++ List.replicate 30 0 ++ check)
      (by rw [← hframe]; simp only [frameBody, List.append_assoc]) rfl
  have ht3 : beField frame 24 8 = t3.toNat % 256 ^ 8 :=
    hfield (a := [kind, origin, destination, port, pathIndex, 0] ++ beBytes 2 seq.toNat ++ beBytes 8 t1.toNat ++
        beBytes 8 t2.toNat) (rest := List.replicate 30 0 ++ check)
      (by rw [← hframe]; simp only [frameBody, List.append_assoc]) rfl
  have hwhole {w m : Nat} (x : BitVec w) (hm : m = 2 ^ w) : BitVec.ofNat w (x.toNat % m) = x := by
    subst hm
    rw [Nat.mod_eq_of_lt x.isLt, BitVec.ofNat_toNat, BitVec.setWidth_eq]
  have hkind : BitVec.ofNat 8 (beField frame 0 1) = kind := hframe ▸ ofNat_beNat_byte kind
  have horigin : BitVec.ofNat 8 (beField frame 1 1) = origin := hframe ▸ ofNat_beNat_byte origin
  have hdestination : BitVec.ofNat 8 (beField frame 2 1) = destination := hframe ▸ ofNat_beNat_byte destination
  have hindex : BitVec.ofNat 8 (beField frame 4 1) = pathIndex := hframe ▸ ofNat_beNat_byte pathIndex
  rw [hframe]
  unfold parseFrame
  rw [hkind, horigin, hdestination, hindex, hseq, ht1, ht2, ht3, hwhole seq (by norm_num), hwhole t1 (by norm_num),
      hwhole t2 (by norm_num),
    hwhole t3 (by norm_num)]

/-- Settles O36: the length and the sum of a built frame, and each field at its place. -/
theorem builtFramesAreWellFormed : Obligations.BuiltFramesAreWellFormed := by
  intro kind origin destination port pathIndex seq t1 t2 t3 b
  have hlength := frameBody_length kind origin destination port pathIndex seq t1 t2 t3
  have hb : b = _ := buildFrame_eq kind origin destination port pathIndex seq t1 t2 t3
  refine ⟨?_, ?_, ?_, rfl⟩
  · rw [hb, List.length_append, hlength, beBytes_length]
  · rw [hb, halfwordSum_append 31 hlength, halfwordSum_beBytes, BitVec.add_right_neg]
    rfl
  · rw [hb]
    exact parseFrame_frameBody ..

/-! ### A received frame (R105, R106, R109) -/

section
variable {s : State} {bytes : List Byte} {port : Byte} {a : Arrival} {f : ReceivedFrame}

theorem exec_probeFrameReceived (h : s.probe.receiving = some a) :
    exec (.probeFrameReceived bytes port) s =
      .next ((s.setProbe { s.probe with receiving := none }).takeFrame bytes port a) := by
  change execProbeFrameReceived bytes port s = _
  unfold execProbeFrameReceived
  rw [h]

theorem takeFrame_length (h : bytes.length ≠ 64) :
    s.takeFrame bytes port a = s.countDevice fun c => { c with lengthErrors := countUp c.lengthErrors } :=
  if_pos h

section
variable (hlength : bytes.length = 64)
include hlength

theorem takeFrame_check (h : halfwordSum bytes ≠ 0 ∨ ((parseFrame bytes).kind ≠ 1 ∧ (parseFrame bytes).kind ≠ 2)) :
    s.takeFrame bytes port a = s.countDevice fun c => { c with checkErrors := countUp c.checkErrors } := by
  unfold State.takeFrame
  refine (if_neg (not_not.mpr hlength)).trans (if_pos ?_)
  rw [Bool.or_eq_true, Bool.and_eq_true, decide_eq_true_eq, decide_eq_true_eq, decide_eq_true_eq]
  exact h

/-- A frame whose length, sum and kind are right goes on to its destination. -/
theorem takeFrame_checked (hsum : halfwordSum bytes = 0)
    (hkind : (parseFrame bytes).kind = 1 ∨ (parseFrame bytes).kind = 2) :
    s.takeFrame bytes port a =
      if (parseFrame bytes).destination ≠ s.probe.terminalId then
        s.countDevice fun c => { c with misdirected := countUp c.misdirected }
      else if (parseFrame bytes).kind = probeKind then s.takeProbe (parseFrame bytes) a port
      else s.takeEcho (parseFrame bytes) a := by
  unfold State.takeFrame
  refine (if_neg (not_not.mpr hlength)).trans (if_neg ?_)
  rw [Bool.or_eq_true, Bool.and_eq_true, decide_eq_true_eq, decide_eq_true_eq, decide_eq_true_eq]
  rintro (h | ⟨hprobe, hecho⟩)
  · exact h hsum
  · exact hkind.elim hprobe hecho

variable (hsum : halfwordSum bytes = 0)
include hsum

theorem takeFrame_misdirected (hkind : (parseFrame bytes).kind = 1 ∨ (parseFrame bytes).kind = 2)
    (h : (parseFrame bytes).destination ≠ s.probe.terminalId) :
    s.takeFrame bytes port a = s.countDevice fun c => { c with misdirected := countUp c.misdirected } :=
  (takeFrame_checked hlength hsum hkind).trans (if_pos h)

theorem takeFrame_probe (hkind : (parseFrame bytes).kind = 1)
    (h : (parseFrame bytes).destination = s.probe.terminalId) :
    s.takeFrame bytes port a = s.takeProbe (parseFrame bytes) a port :=
  (takeFrame_checked hlength hsum (.inl hkind)).trans ((if_neg (not_not.mpr h)).trans (if_pos hkind))

theorem takeFrame_echo (hkind : (parseFrame bytes).kind = 2)
    (h : (parseFrame bytes).destination = s.probe.terminalId) :
    s.takeFrame bytes port a = s.takeEcho (parseFrame bytes) a :=
  (takeFrame_checked hlength hsum (.inr hkind)).trans
    ((if_neg (not_not.mpr h)).trans (if_neg (hkind ▸ by decide)))

end

theorem sentSlot_none (h : ∀ (k : SlotIndex) p q t1 n v, s.probe.slots[k] = .sent p q t1 n v → q = f.seq →
    p.val ≠ f.pathIndex.toNat) : s.sentSlot f = none := by
  refine find?_finRange_eq_none.mpr fun k => ?_
  split
  · rename_i p q t1 n v hk
    rw [Bool.and_eq_false_iff, decide_eq_false_iff_not, decide_eq_false_iff_not]
    exact (em (q = f.seq)).elim (fun hq => .inl (h k p q t1 n v hk hq)) .inr
  · rfl


/-- No two slots hold one key, so the SENT slot that holds the frame's is the one found (R100). -/
theorem sentSlot_some {k : SlotIndex} {p : PathIndex} {t1 : Quad} {n : Nat} {v : Half} (hs : s.slotsSound)
    (hk : s.probe.slots[k] = .sent p f.seq t1 n v) (hp : p.val = f.pathIndex.toNat) : s.sentSlot f = some k := by
  refine find?_finRange_eq_some.mpr ⟨?_, fun j hj => ?_⟩
  · rw [hk]
    exact Bool.and_eq_true_iff.mpr ⟨decide_eq_true hp, decide_eq_true rfl⟩
  · obtain ⟨-, hunique, -⟩ := hs
    split
    · rename_i p' q t1' n' v' hslot
      rw [Bool.and_eq_false_iff, decide_eq_false_iff_not, decide_eq_false_iff_not]
      refine not_and_or.mp fun ⟨hp', hq⟩ => ?_
      have hpath : p' = p := Fin.ext (hp'.trans hp.symm)
      refine hunique j k hj.ne (by rw [hslot]; rfl) ?_
      rw [hslot, hk, hpath, hq]
      rfl
    · rfl

end

/-- Settles O37: the checks of every frame, then the cases of a PROBE and of an ECHO. -/
theorem receivedFrameIsDealtWithByFirstCase : Obligations.ReceivedFrameIsDealtWithByFirstCase := by
  intro bytes port s
  refine ⟨rfl, fun a ha => ?_⟩
  intro f c g counting up
  have hexec := exec_probeFrameReceived (bytes := bytes) (port := port) ha
  obtain ⟨s', hs'⟩ : ∃ s' : State, s.setProbe { s.probe with receiving := none } = s' := ⟨_, rfl⟩
  have hcounting (count : DeviceCounters → DeviceCounters) : s'.countDevice count = counting (count c) := hs' ▸ rfl
  have hprobe : s'.probe = g := hs' ▸ rfl
  have htime : s'.time = s.time := hs' ▸ rfl
  rw [hs'] at hexec
  have htaken {t : State} (ht : s'.takeFrame bytes port a = t) : exec (.probeFrameReceived bytes port) s = .next t :=
    hexec.trans (congrArg Host.Outcome.next ht)
  refine ⟨fun h => htaken ((takeFrame_length h).trans (hcounting _)),
    fun hl h => htaken ((takeFrame_check hl h).trans (hcounting _)),
    fun hl hsum hkind h => htaken ((takeFrame_misdirected hl hsum hkind (by rw [hprobe]; exact h)).trans (hcounting _)),
    fun hl hsum hkind h => ?_, fun hl hsum hkind h => ?_⟩
  · refine htaken ((takeFrame_probe hl hsum hkind (by rw [hprobe]; exact h)).trans ?_)
    unfold State.takeProbe
    rw [hprobe, htime]
    simp only [hcounting]
    refine if_congr Iff.rfl rfl (if_congr ?_ rfl (if_congr Iff.rfl rfl (if_congr Iff.rfl rfl (hs' ▸ rfl))))
    rw [Bool.or_eq_true, decide_eq_true_eq, decide_eq_true_eq]
  · have hecho := takeFrame_echo (port := port) (a := a) hl hsum hkind (s := s') (by rw [hprobe]; exact h)
    refine ⟨fun hstep => htaken (hecho.trans ?_), fun hstep hunknown => htaken (hecho.trans ?_),
      fun k p t1 n v hsound hstep hk hp => htaken (hecho.trans ?_)⟩
    · exact (if_pos (by rw [hprobe]; exact hstep)).trans (hcounting _)
    · have hnone : s'.sentSlot f = none := sentSlot_none (by rw [hprobe]; exact hunknown)
      unfold State.takeEcho
      rw [if_neg (by rw [hprobe]; exact not_not.mpr hstep), hnone]
      exact hcounting _
    · have hsound' : s'.slotsSound := hs' ▸ hsound
      have hk' : s'.probe.slots[k] = .sent p f.seq t1 n v := by
        rw [hprobe]
        exact hk
      unfold State.takeEcho
      rw [if_neg (by rw [hprobe]; exact not_not.mpr hstep), sentSlot_some hsound' hk' hp]
      dsimp only
      rw [hk', ← hs']
      rfl

/-! ### A matched echo (R110, R113, R117) -/

theorem Path.matched_eq (x : Path) (v : Option Nat) {y : Path} (hy : (v.map x.filter).getD x = y)
    (hconfig : y.config = x.config) (htimer : y.timer = x.timer) :
    x.matched v =
      { y with
        loss := 0
        lost := false
        timer := if x.lost = true then x.timer.map (fun m => min m x.config.interval.toNat) else x.timer } := by
  have hcounted : x.matched v =
      if x.lost then ({ y with loss := 0, lost := false } : Path).cutTimer
      else { y with loss := 0, lost := false } := by
    cases v <;> exact hy ▸ rfl
  have hwith {t u : Option Nat} (h : t = u) :
      ({ y with loss := 0, lost := false, timer := t } : Path) =
        { y with loss := 0, lost := false, timer := u } := h ▸ rfl
  rw [hcounted]
  cases x.lost with
  | false => exact hwith htimer
  | true => exact hwith (by rw [hconfig, htimer]; rfl)

theorem State.shows_iff (s : State) (x y : Path) :
    s.shows x y = true ↔ x.lost ≠ y.lost ∨ y.status ≠ x.status ∨ s.latencyUsed y ≠ s.latencyUsed x := by
  unfold State.shows
  rw [Bool.or_eq_true, Bool.or_eq_true, decide_eq_true_eq, decide_eq_true_eq, decide_eq_true_eq, or_assoc,
    ne_comm (a := x.status), ne_comm (a := s.latencyUsed x)]

/-- Settles O38: the record after the echo, and when it shows a change. -/
theorem matchedEchoFreesSlotAndClearsLoss : Obligations.MatchedEchoFreesSlotAndClearsLoss := by
  intro k p t1 t4 f s x c rate rtt v filtered x'
  obtain ⟨htimer, -, hconfig⟩ := x.filter_timer v.toNat
  have hmatched : x.matched (if rate = 0 then none else some v.toNat) = x' := by
    refine Path.matched_eq x _ (y := filtered) ?_ ?_ ?_
    · change _ = if rate = 0 then x else x.filter v.toNat
      split <;> rfl
    · change (if rate = 0 then x else x.filter v.toNat).config = _
      split
      · rfl
      · exact hconfig
    · change (if rate = 0 then x else x.filter v.toNat).timer = _
      split
      · rfl
      · exact htimer
  have hshows : s.shows x x' = true ↔ x.lost = true ∨ x'.status ≠ x.status ∨ s.latencyUsed x' ≠ s.latencyUsed x := by
    rw [State.shows_iff]
    refine or_congr ?_ Iff.rfl
    change x.lost ≠ false ↔ _
    rw [ne_eq, Bool.not_eq_false]
  have hmatch : s.matchEcho k p t1 f t4 =
      (((s.setSlot k .free).setPath p (x.matched (if rate = 0 then none else some v.toNat))).countDevice fun c =>
        { c with
          echoesMatched := countUp c.echoesMatched
          unusableEchoes := if rate = 0 then countUp c.unusableEchoes else c.unusableEchoes }).triggerIf
        (s.shows x (x.matched (if rate = 0 then none else some v.toNat))) (.path p) := rfl
  rw [hmatch, hmatched]
  clear_value x'
  rw [State.triggerIf_eq, if_congr hshows rfl rfl]
  rfl

end Sys2Proof.Machine
end

section
/-! PROOF of O23, O24, O25, O26 and O27. The Path Table: the profile table (R58, R59), the figures of a path (R60 to
R64), and its requests (R69 to R73). -/

namespace Sys2Proof.Machine

open Sys2Proof

/-! ### The profile table (R59) -/

/-- A halfword of an image, low byte first. -/
theorem leBytes_half (e : Half) : leBytes 2 e.toNat = [e.extractLsb' 0 8, e.extractLsb' 8 8] := by
  have hbyte (k : Nat) : BitVec.ofNat 8 (e.toNat / 2 ^ k) = e.extractLsb' k 8 := by
    apply BitVec.eq_of_toNat_eq
    rw [BitVec.toNat_ofNat, BitVec.extractLsb'_toNat, Nat.shiftRight_eq_div_pow]
  have hlow := hbyte 0
  rw [Nat.pow_zero, Nat.div_one] at hlow
  rw [← hlow, ← hbyte 8]
  rfl

/-- Settles O23: the entries are replaced together, and the image takes them. -/
theorem profileRequestsReplaceAndRead : Obligations.ProfileRequestsReplaceAndRead := by
  intro entries s
  refine ⟨applies_of_settle_eq rfl rfl rfl, applies_of_settle_eq rfl ?_ rfl⟩
  have himage : profilesImage s.profiles =
      [0, 0] ++ s.profiles.toList.flatMap fun e => [e.extractLsb' 0 8, e.extractLsb' 8 8] :=
    congrArg ([0, 0] ++ s.profiles.toList.flatMap ·) (funext leBytes_half)
  rw [himage]
  rfl

/-! ### RESTART-ESTIMATE and READ-PATH (R72, R73) -/

/-- Settles O26: the restart of a non-vacant path, and the image. -/
theorem restartEstimateAndReadPath : Obligations.RestartEstimateAndReadPath := by
  intro p s
  refine ⟨fun h => applies_of_settle_eq rfl ?_ rfl, fun h => applies_of_settle_eq rfl ?_ rfl,
    applies_of_settle_eq rfl rfl rfl⟩
  · exact if_pos (decide_eq_true h)
  · exact if_neg fun e => (of_decide_eq_true (p := s.paths[p].body ≠ .vacant) e) h

/-! ### The figures of a path (R58, R60 to R64) -/

section
variable {s : State}

theorem rate_of_entry {k : BitVec 3} {j : Fin 7} (h : k.toNat = j.val + 1) :
    s.rate k = max s.profiles[j].toNat 1 := by
  have hk : k ≠ 0 := fun e => by
    rw [e] at h
    exact absurd h (Nat.succ_ne_zero _).symm
  have hj : k.toNat - 1 = j.val := by omega
  unfold State.rate
  rw [if_neg hk]
  simp only [hj]
  rfl

/-- Profile 0 alone has no rate. -/
theorem one_le_rate_iff {k : BitVec 3} : 1 ≤ s.rate k ↔ k ≠ 0 := by
  unfold State.rate
  split
  · rename_i h
    exact iff_of_false (by decide) (not_not.mpr h)
  · rename_i h
    exact iff_of_true (one_le_effective _) h

/-- The rates of a non-empty hop list have a least one, which is r_min. -/
theorem minRate_microwave {hops : List HopIndex} (h : hops ≠ []) :
    (∃ i ∈ hops, s.minRate (.microwave hops) = s.rate s.hops[i].profile) ∧
      ∀ i ∈ hops, s.minRate (.microwave hops) ≤ s.rate s.hops[i].profile := by
  obtain ⟨least, hleast⟩ := Option.isSome_iff_exists.mp
    (List.isSome_min?_of_ne_nil (l := hops.map fun i => s.rate s.hops[i].profile) (by simpa using h))
  have hrate : s.minRate (.microwave hops) = least := by
    change ((hops.map fun i => s.rate s.hops[i].profile).min?).getD 0 = least
    rw [hleast]
    rfl
  obtain ⟨hmem, hall⟩ := List.min?_eq_some_iff.mp hleast
  obtain ⟨i, hi, hrate'⟩ := List.mem_map.mp hmem
  exact ⟨⟨i, hi, hrate.trans hrate'.symm⟩, fun j hj => hrate.le.trans (hall _ (List.mem_map_of_mem hj))⟩

theorem hopUsable_iff {c : ClassIndex} {i : HopIndex} :
    s.hopUsable c i = true ↔
      s.held i = false ∧
        (s.hops[i].state = .clear ∨ (s.hops[i].state = .fading ∧ s.classes[c].tolerateFading = true)) := by
  unfold State.hopUsable
  rw [Bool.and_eq_true, Bool.not_eq_true']
  refine and_congr_right fun _ => ?_
  generalize s.hops[i].state = state
  cases state <;> simp

theorem pathUsable_iff {c : ClassIndex} {p : PathIndex} :
    s.pathUsable c p = true ↔
      s.paths[p].body ≠ .vacant ∧ s.paths[p].lost = false ∧ 1 ≤ s.minRate s.paths[p].body ∧
        ∀ i ∈ s.paths[p].body.hops, s.hopUsable c i = true := by
  unfold State.pathUsable Path.nonVacant
  simp only [Bool.and_eq_true, decide_eq_true_eq, Bool.not_eq_true', List.all_eq_true, and_assoc]

end

/-- Settles O27: each figure from its definition. -/
theorem pathFiguresFollowTheirHops : Obligations.PathFiguresFollowTheirHops := by
  refine ⟨fun n rate h => divUp_spec _ h, fun s k j h => ⟨rfl, rate_of_entry h⟩,
    fun s hops => ⟨rfl, fun h => minRate_microwave h⟩, fun s latency rate => ⟨rfl, rfl⟩, fun s => ⟨rfl, rfl⟩,
    fun s x => ?_, fun s p n => rfl, fun s c p => ⟨fun hbody => ?_, fun latency rate hbody hrate => ?_,
      fun hops hbody hne => ?_⟩⟩
  · unfold State.latencyUsed
    cases x.status <;> rfl
  · exact Bool.eq_false_iff.mpr fun h => (pathUsable_iff.mp h).1 hbody
  · have hone : 1 ≤ rate.toNat := Nat.one_le_iff_ne_zero.mpr fun e => hrate (BitVec.eq_of_toNat_eq e)
    rw [pathUsable_iff, hbody]
    exact ⟨fun ⟨_, hlost, _⟩ => hlost, fun hlost => ⟨nofun, hlost, hone, nofun⟩⟩
  · obtain ⟨⟨least, hleast, hrate⟩, hall⟩ := minRate_microwave (s := s) hne
    rw [pathUsable_iff, hbody]
    constructor
    · rintro ⟨-, hlost, hone, husable⟩
      exact ⟨hlost, fun i hi => ⟨one_le_rate_iff.mp (hone.trans (hall i hi)), hopUsable_iff.mp (husable i hi)⟩⟩
    · rintro ⟨hlost, hhops⟩
      refine ⟨nofun, hlost, ?_, fun i hi => hopUsable_iff.mpr (hhops i hi).2⟩
      rw [hrate]
      exact one_le_rate_iff.mpr (hhops least hleast).1

/-! ### WRITE-PATH (R69, R70) -/

section
variable {s : State} {p : PathIndex} {image : PathImage}

/-- The full interval of a path does not read its timer. -/
theorem setPath_fullInterval (x : Path) (v : Option Nat) :
    (s.setPath p { x with timer := v }).fullInterval p = (s.setPath p x).fullInterval p := by
  refine fullInterval_congr ?_ ?_ ?_ rfl rfl rfl rfl <;> simp only [State.setPath_paths, table_set_self]

theorem applyWritePath_kept (h : s.paths[p].body.sameGeometry (PathImage.body image) = true) :
    applyWritePath p image s =
      ((s.setPath p
        { s.paths[p].rewrite image with
          timer :=
            if (PathImage.config image).interval = s.paths[p].config.interval then s.paths[p].timer
            else (s.setPath p (s.paths[p].rewrite image)).fullInterval p }).trigger (.path p), .done) := by
  unfold applyWritePath
  dsimp only
  rw [if_pos h]
  by_cases hinterval : (PathImage.config image).interval = s.paths[p].config.interval
  · rw [if_neg (not_not.mpr hinterval), if_pos hinterval]
    rfl
  · rw [if_pos hinterval, if_neg hinterval, setPath_reloadTimer]

theorem applyWritePath_renewed (h : s.paths[p].body.sameGeometry (PathImage.body image) = false) :
    applyWritePath p image s =
      (((s.setPath p
        { s.paths[p].renew image with
          timer := (s.setPath p (s.paths[p].renew image)).fullInterval p }).freeSlots (Slot.names p)).trigger
            (.path p), .done) := by
  unfold applyWritePath
  dsimp only
  rw [h, if_neg Bool.false_ne_true, setPath_reloadTimer]

/-- The geometry is kept with the kind, and for MICROWAVE with the hop list (R69). -/
theorem sameGeometry_iff (old : PathBody) :
    old.sameGeometry (PathImage.body image) = true ↔
      (image.kind = 1 ∧ old = .microwave ((PathImage.listed image).map fun b => Fin.ofNat 64 b.toNat)) ∨
        (image.kind ≠ 1 ∧ ∃ latency rate, old = .fibre latency rate) := by
  unfold PathImage.body PathBody.sameGeometry
  by_cases hkind : image.kind = 1
  · rw [if_pos hkind]
    cases old <;> simp [hkind]
  · have hkind' : ¬ image.kind = 1#8 := hkind
    rw [if_neg hkind]
    cases old <;> simp [hkind']

end

/-- Settles O24: the image that fails, the geometry kept, and the geometry changed. -/
theorem writePathKeepsOrRenewsTheEstimate : Obligations.WritePathKeepsOrRenewsTheEstimate := by
  intro p image s x hops body config kept
  have hkept : x.body.sameGeometry (PathImage.body image) = true ↔ kept := sameGeometry_iff x.body
  refine ⟨fun cause hc => applies_of_fault rfl hc, fun hc hk => ?_, fun hc hk => ?_⟩
  · have ho := applyWritePath_kept (hkept.mpr hk)
    obtain ⟨y, hy⟩ : ∃ y : Path, { s.paths[p].rewrite image with
        timer := if (PathImage.config image).interval = s.paths[p].config.interval then s.paths[p].timer
          else (s.setPath p (s.paths[p].rewrite image)).fullInterval p } = y := ⟨_, rfl⟩
    have hfull : ((s.setPath p y).trigger (.path p)).fullInterval p =
        (s.setPath p (s.paths[p].rewrite image)).fullInterval p := hy ▸ setPath_fullInterval _ _
    rw [hy] at ho
    refine ⟨(s.setPath p y).trigger (.path p), applies_of_pass rfl hc ho rfl, ?_, fun q hq => table_set_ne _ _ hq,
        rfl, rfl⟩
    rw [hfull]
    refine (table_set_self _ _ _).trans (hy.symm.trans ?_)
    unfold Path.rewrite
    rw [ite_not]
    rfl
  · have ho := applyWritePath_renewed (Bool.eq_false_iff.mpr (mt hkept.mp hk))
    obtain ⟨y, hy⟩ : ∃ y : Path, { s.paths[p].renew image with
        timer := (s.setPath p (s.paths[p].renew image)).fullInterval p } = y := ⟨_, rfl⟩
    have hfull : (((s.setPath p y).freeSlots (Slot.names p)).trigger (.path p)).fullInterval p =
        (s.setPath p (s.paths[p].renew image)).fullInterval p := hy ▸ setPath_fullInterval _ _
    rw [hy] at ho
    refine ⟨((s.setPath p y).freeSlots (Slot.names p)).trigger (.path p), applies_of_pass rfl hc ho rfl, ?_,
      fun q hq => table_set_ne _ _ hq, fun k => ?_, rfl, rfl⟩
    · rw [hfull]
      refine (table_set_self _ _ _).trans (hy.symm.trans ?_)
      rfl
    · simp only [State.trigger, State.triggerIf_eq, State.freeSlots, State.setProbe_probe, State.setPath_probe,
        table_map,
        Slot.names, decide_eq_true_eq]

/-! ### RETIRE-PATH (R71) -/

/-- A sound route's choice is one of its candidates or its fallback (R125, R131). -/
theorem Route.choiceSound.choice_held {r : Route} (h : r.choiceSound) {p : PathIndex} (hp : r.choice = some p) :
    p ∈ r.candidates ∨ r.fallback = some p := by
  unfold Route.choiceSound at h
  split at h
  · rw [h] at hp
    exact nomatch hp
  · obtain ⟨q, hq, hchoice⟩ := h
    obtain rfl := Option.some.inj (hp.symm.trans hchoice)
    exact .inl hq
  · obtain ⟨q, hq, hchoice⟩ := h
    obtain rfl := Option.some.inj (hp.symm.trans hchoice)
    exact .inr hq
  · exact nomatch h.symm.trans hp

/-- A route without `p` is not changed by the dropping of `p`. -/
theorem Route.dropPath_eq_self {r : Route} {p : PathIndex} (hc : p ∉ r.candidates) (hf : r.fallback ≠ some p) :
    r.candidates = r.candidates.filter (fun q => decide (q ≠ p)) ∧
      r.fallback = if r.fallback = some p then none else r.fallback := by
  refine ⟨(List.filter_eq_self.mpr fun q hq => ?_).symm, (if_neg hf).symm⟩
  have hne : q ≠ p := fun e => hc (e ▸ hq)
  exact decide_eq_true hne

/-- What the dropping of path `p` leaves of a sound route: no reference to the path, and the rest of the record where
the route held it (R71). -/
theorem droppedRoute_spec (s : State) (p : PathIndex) {r : Route} (h : r.choiceSound) :
    let r' := s.droppedRoute p r
    r'.candidates = r.candidates.filter (fun q => decide (q ≠ p)) ∧
      r'.fallback = (if r.fallback = some p then none else r.fallback) ∧ r'.choice ≠ some p ∧
      r'.contexts = r.contexts ∧ r'.counters = r.counters ∧
      (p ∉ r.candidates → r.fallback ≠ some p → r' = r) := by
  intro r'
  have hr' : r' = if r.nonVacant && r.holds p then s.recomputed (r.dropPath p) else r := rfl
  clear_value r'
  split at hr'
  · rename_i hholds
    have hchoice : r'.choice ≠ some p := fun e => by
      have hheld := (hr' ▸ recomputed_choiceSound s (r.dropPath p) : r'.choiceSound).choice_held e
      subst hr'
      rcases hheld with hc | hf
      · exact of_decide_eq_true (List.mem_filter.mp hc).2 rfl
      · change (if r.fallback = some p then none else r.fallback) = some p at hf
        split at hf
        · exact nomatch hf
        · exact absurd hf ‹_›
    subst hr'
    refine ⟨rfl, rfl, hchoice, rfl, rfl, fun hc hf => ?_⟩
    have hheld : r.holds p = true := (Bool.and_eq_true_iff.mp hholds).2
    simp [Route.holds, hc, hf] at hheld
  · rename_i hkept
    subst hr'
    have hnot : p ∉ r'.candidates ∧ r'.fallback ≠ some p := by
      by_cases hv : r'.state = .vacant
      · rw [h.eq_vacant hv]
        exact ⟨List.not_mem_nil, nofun⟩
      · exact Route.dropPath_of_not_holds (Bool.eq_false_iff.mpr fun hp =>
          hkept (Bool.and_eq_true_iff.mpr ⟨Route.nonVacant_iff.mpr hv, hp⟩))
    obtain ⟨hc, hf⟩ := hnot
    obtain ⟨hcandidates, hfallback⟩ := Route.dropPath_eq_self hc hf
    exact ⟨hcandidates, hfallback, fun e => (h.choice_held e).elim hc hf, rfl, rfl, fun _ _ => rfl⟩

/-- The work of the channel is not touched by an apply. -/
theorem directApply_work {c : Instr} {s : State} {out : State × Reply} (h : directApply c s = some out) :
    out.1.chan.work = s.chan.work := by
  have hwork := congrArg Channel.work (directApply_engine h)
  exact hwork

/-- Settles O25: the record emptied, its slots freed, and every route without it. -/
theorem retirePathLeavesNoReference : Obligations.RetirePathLeavesNoReference := by
  intro p s hroutes
  obtain ⟨t, ht⟩ : ∃ t, (s.emptyPath p).dropFromRoutes p (List.finRange 32) = t := ⟨_, rfl⟩
  have ho : applyRetirePath p s = (t.trigger (.path p), .done) := ht ▸ applyRetirePath_eq p s
  have happlies : Applies (.retirePath p) s (t.trigger (.path p)) .done :=
    applies_of_settle_eq rfl ho (directApply_work (c := .retirePath p) (congrArg some ho))
  obtain ⟨u, hexec, hu, -⟩ := happlies.frame
  have hframe := ht ▸ State.dropFromRoutes_frame p (List.finRange 32) (s.emptyPath p)
  have hpathsFrame := congrArg State.paths hframe
  have hprobeFrame := congrArg State.probe hframe
  have hpathsAnswer := congrArg State.paths hu
  have hprobeAnswer := congrArg State.probe hu
  have hroutesAnswer := congrArg State.routes hu
  have htriggersAnswer := congrArg State.triggers hu
  have hpaths : u.paths = (s.emptyPath p).paths := hpathsAnswer.trans hpathsFrame
  have hprobe : u.probe = (s.emptyPath p).probe := hprobeAnswer.trans hprobeFrame
  have hroutes' : u.routes = t.routes := hroutesAnswer
  have htriggers' : u.triggers = (t.trigger (.path p)).triggers := htriggersAnswer
  have hroute (i : RouteIndex) : u.routes[i] = (s.emptyPath p).droppedRoute p s.routes[i] := by
    rw [hroutes', ← ht]
    exact retiredPath_route p s i
  refine ⟨u, hexec, ?_, fun q hq => ?_, fun k => ?_, fun i => ?_, ?_, ?_, ?_⟩
  · rw [hpaths, emptyPath_path, if_pos rfl]
    rfl
  · rw [hpaths, emptyPath_path, if_neg hq]
  · rw [hprobe, emptyPath_slot]
  · rw [hroute]
    exact droppedRoute_spec _ p (hroutes i).2
  · have htriggers := congrArg State.triggers hframe
    rw [htriggers', State.trigger, State.triggerIf_eq]
    exact congrArg (· ++ [Trigger.path p]) htriggers
  · have hreply := congrArg State.reply hu
    exact hreply
  · have hrest := congrArg (fun v : State => { v with
      paths := s.paths, routes := s.routes, triggers := s.triggers, reply := s.reply, chan := s.chan,
      attentionCount := s.attentionCount, probe := { v.probe with slots := s.probe.slots } }) hu
    have hrest' := congrArg (fun v : State => { v with
      paths := s.paths, routes := s.routes, triggers := s.triggers, reply := s.reply, chan := s.chan,
      attentionCount := s.attentionCount, probe := { v.probe with slots := s.probe.slots } }) hframe
    exact hrest.trans hrest'

end Sys2Proof.Machine
end

section
/-! PROOF of O28. Content validation (R36, R67, R89, R99, R127, R137): the checks of each write image in their order. -/

namespace Sys2Proof.Machine

open Sys2Proof

theorem hopCheck_eq (i : HopImage) :
    HopImage.check i =
      if 7 < i.line.toNat then some .line
      else if i.nominal.toNat < 1 ∨ 7 < i.nominal.toNat then some .profile
      else if i.clear.toInt < i.fade.toInt then some .threshold
      else if 15 < i.badLimit.toNat then some .limit
      else if 1048575 < i.propagation.toNat ∨ 4095 < i.regeneration.toNat then some .delay
      else none := by
  unfold HopImage.check
  simp only [firstFailure_cons, firstFailure_nil, decide_eq_true_eq, Nat.lt_one_iff]

theorem classCheck_eq (i : ClassImage) :
    ClassImage.check i =
      if 1 < i.tolerateFading.toNat ∨ 1 < i.fibreCompetes.toNat ∨ 1 < i.ordering.toNat then some .switch
      else if 1048575 < i.maxHold.toNat then some .maxHold
      else none := by
  unfold ClassImage.check Config.maxHoldMax
  simp only [firstFailure_cons, firstFailure_nil, decide_eq_true_eq]

theorem timingCheck_eq (i : TimingImage) :
    TimingImage.check i =
      if 1000000 < i.stepLimit.toNat then some .stepLimit
      else if 7 < i.integral.toNat then some .integral
      else if 7 < i.proportional.toNat then some .proportional
      else none := by
  unfold TimingImage.check Config.stepLimitMax
  simp only [firstFailure_cons, firstFailure_nil, decide_eq_true_eq]

/-! ### WRITE-ROUTE (R137) -/

section
variable {s : State}

theorem candidateKind_iff (i : RouteImage) :
    (RouteImage.candidateList i).any (fun p => !s.paths[p].isMicrowave) = true ↔
      ∃ b ∈ RouteImage.listed i, s.paths[(Fin.ofNat 128 b.toNat : PathIndex)].isMicrowave = false := by
  unfold RouteImage.candidateList
  simp only [List.any_map, List.any_eq_true, Function.comp_apply, Bool.not_eq_true']

theorem fallbackKind_iff (i : RouteImage) :
    (match RouteImage.fallbackPath i with
      | some p => !s.paths[p].isFibre
      | none => false) = true ↔
      i.fallbackPresent = 1 ∧ s.paths[(Fin.ofNat 128 i.fallback.toNat : PathIndex)].isFibre = false := by
  unfold RouteImage.fallbackPath
  by_cases h : i.fallbackPresent = 1
  · rw [if_pos h]
    exact (iff_of_eq (Bool.not_eq_true' _)).trans (and_iff_right h).symm
  · rw [if_neg h]
    exact iff_of_false Bool.false_ne_true fun e => h e.1

theorem routeCheck_eq (i : RouteImage) :
    RouteImage.check i s =
      if 8 < i.count.toNat then some .candidateCount
      else if 1 < i.fallbackPresent.toNat then some .switch
      else if (∃ b ∈ RouteImage.listed i, 127 < b.toNat) ∨ (i.fallbackPresent = 1 ∧ 127 < i.fallback.toNat) then
        some .pathIndex
      else if ¬ (RouteImage.listed i).Nodup then some .candidateDuplicate
      else if ∃ b ∈ RouteImage.listed i, s.paths[(Fin.ofNat 128 b.toNat : PathIndex)].isMicrowave = false then
        some .candidateKind
      else if i.fallbackPresent = 1 ∧ s.paths[(Fin.ofNat 128 i.fallback.toNat : PathIndex)].isFibre = false then
        some .fallbackKind
      else if 16383 < i.refLength.toNat then some .length
      else none := by
  unfold RouteImage.check RouteImage.staticChecks
  simp only [List.cons_append, List.nil_append, firstFailure_cons, firstFailure_nil]
  refine if_congr decide_eq_true_iff rfl (if_congr decide_eq_true_iff rfl (if_congr ?_ rfl (if_congr ?_ rfl
    (if_congr (candidateKind_iff i) rfl (if_congr (fallbackKind_iff i) rfl (if_congr decide_eq_true_iff rfl rfl))))))
  · simp only [Bool.or_eq_true, List.any_eq_true, decide_eq_true_eq]
  · rw [Bool.not_eq_true', decide_eq_false_iff_not]

/-! ### WRITE-PATH (R67, R68) -/

theorem hopVacant_iff (i : PathImage) :
    (PathImage.body i).hops.any (fun h => !s.hops[h].inService) = true ↔
      i.kind = 1 ∧ ∃ b ∈ PathImage.listed i, s.hops[(Fin.ofNat 64 b.toNat : HopIndex)].state = .vacant := by
  unfold PathImage.body Hop.inService
  by_cases h : i.kind = 1
  · rw [if_pos h, and_iff_right h]
    simp only [PathBody.hops, List.any_map, List.any_eq_true, Function.comp_apply, Bool.not_eq_true',
      decide_eq_false_iff_not, ne_eq, not_not]
  · rw [if_neg h]
    exact iff_of_false Bool.false_ne_true fun e => h e.1

theorem routes_any_iff (f : Route → Bool) : s.routes.toList.any f = true ↔ ∃ r : RouteIndex, f s.routes[r] = true := by
  rw [List.any_eq_true]
  constructor
  · rintro ⟨x, hmem, hx⟩
    obtain ⟨k, hk, rfl⟩ := Vector.getElem_of_mem (Vector.mem_toList_iff.mp hmem)
    exact ⟨⟨k, hk⟩, hx⟩
  · rintro ⟨k, hk⟩
    exact ⟨s.routes[k], Vector.mem_toList_iff.mpr (Vector.getElem_mem k.isLt), hk⟩

/-- A path that changes its kind while a route refers to it in the other role (R68). -/
theorem kindInUse_iff (p : PathIndex) {i : PathImage} (hkind : i.kind = 1 ∨ i.kind = 2) :
    s.kindInUse p (PathImage.body i) = true ↔
      (i.kind = 1 ∧ s.paths[p].isFibre = true ∧
          ∃ r : RouteIndex, s.routes[r].state ≠ .vacant ∧ s.routes[r].fallback = some p) ∨
        (i.kind = 2 ∧ s.paths[p].isMicrowave = true ∧
          ∃ r : RouteIndex, s.routes[r].state ≠ .vacant ∧ p ∈ s.routes[r].candidates) := by
  have hfallback : (s.routes.toList.any fun r => r.nonVacant && decide (r.fallback = some p)) = true ↔
      ∃ r : RouteIndex, s.routes[r].state ≠ .vacant ∧ s.routes[r].fallback = some p := by
    simp only [routes_any_iff, Route.nonVacant, Bool.and_eq_true, decide_eq_true_eq]
  have hcandidates : (s.routes.toList.any fun r => r.nonVacant && r.candidates.contains p) = true ↔
      ∃ r : RouteIndex, s.routes[r].state ≠ .vacant ∧ p ∈ s.routes[r].candidates := by
    simp only [routes_any_iff, Route.nonVacant, Bool.and_eq_true, decide_eq_true_eq, List.contains_iff_mem]
  rw [← hfallback, ← hcandidates]
  unfold State.kindInUse Path.isFibre Path.isMicrowave PathImage.body
  generalize s.paths[p].body = old
  have hone : ¬ (1 : Byte) = 2 := by decide
  have htwo : ¬ (2 : Byte) = 1 := by decide
  rcases hkind with h | h
  · rw [h, if_pos rfl, or_iff_left fun e => hone e.1, and_iff_right rfl]
    cases old with
    | fibre latency rate => exact (and_iff_right rfl).symm
    | _ => exact iff_of_false Bool.false_ne_true fun e => Bool.false_ne_true e.1
  · rw [h, if_neg htwo, or_iff_right fun e => htwo e.1, and_iff_right rfl]
    cases old with
    | microwave hops => exact (and_iff_right rfl).symm
    | _ => exact iff_of_false Bool.false_ne_true fun e => Bool.false_ne_true e.1

theorem pathCheck_eq (p : PathIndex) (i : PathImage) :
    PathImage.check i p s =
      if i.kind ≠ 1 ∧ i.kind ≠ 2 then some .kind
      else if 15 < i.port.toNat then some .port
      else if i.farId = 0 then some .farId
      else if 1000 < i.interval.toNat then some .interval
      else if 15 < i.lossLimit.toNat then some .limit
      else if 7 < i.shift.toNat then some .shift
      else if i.kind = 1 ∧ (i.hopCount.toNat < 1 ∨ 12 < i.hopCount.toNat) then some .hopCount
      else if i.kind = 1 ∧ ∃ b ∈ PathImage.listed i, 63 < b.toNat then some .hopIndex
      else if i.kind = 1 ∧ ¬ (PathImage.listed i).Nodup then some .hopDuplicate
      else if i.kind = 1 ∧ ∃ b ∈ PathImage.listed i, s.hops[(Fin.ofNat 64 b.toNat : HopIndex)].state = .vacant then
        some .hopVacant
      else if i.kind = 2 ∧ 16777215 < i.fibreLatency.toNat then some .fibreLatency
      else if i.kind = 2 ∧ i.fibreRate = 0 then some .fibreRate
      else if (i.kind = 1 ∧ s.paths[p].isFibre = true ∧
            ∃ r : RouteIndex, s.routes[r].state ≠ .vacant ∧ s.routes[r].fallback = some p) ∨
          (i.kind = 2 ∧ s.paths[p].isMicrowave = true ∧
            ∃ r : RouteIndex, s.routes[r].state ≠ .vacant ∧ p ∈ s.routes[r].candidates) then
        some .kindInUse
      else none := by
  unfold PathImage.check PathImage.staticChecks
  simp only [List.cons_append, List.nil_append, firstFailure_cons, firstFailure_nil]
  refine if_ctx_congr ?_ (fun _ => rfl) fun hother => ?_
  · rw [Bool.and_eq_true, Bool.not_eq_true', Bool.not_eq_true', decide_eq_false_iff_not, decide_eq_false_iff_not]
  have hkind : i.kind = 1 ∨ i.kind = 2 := by
    rw [not_and_or, not_not, not_not] at hother
    exact hother
  refine if_congr decide_eq_true_iff rfl (if_congr decide_eq_true_iff rfl (if_congr decide_eq_true_iff rfl
    (if_congr decide_eq_true_iff rfl (if_congr decide_eq_true_iff rfl (if_congr ?_ rfl (if_congr ?_ rfl
      (if_congr ?_ rfl (if_congr (hopVacant_iff i) rfl (if_congr ?_ rfl (if_congr ?_ rfl
        (if_congr (kindInUse_iff p hkind) rfl rfl)))))))))))
  · simp only [Bool.and_eq_true, decide_eq_true_eq, Nat.lt_one_iff]
  · simp only [Bool.and_eq_true, decide_eq_true_eq, List.any_eq_true]
  · rw [Bool.and_eq_true, Bool.not_eq_true', decide_eq_true_eq, decide_eq_false_iff_not]
  · exact Bool.and_eq_true_iff.trans (and_congr decide_eq_true_iff decide_eq_true_iff)
  · exact Bool.and_eq_true_iff.trans (and_congr decide_eq_true_iff decide_eq_true_iff)

end

/-- Settles O28: the six lists of checks. -/
theorem contentValidationNamesFirstFailure : Obligations.ContentValidationNamesFirstFailure :=
  fun _ => ⟨hopCheck_eq, pathCheck_eq, routeCheck_eq, classCheck_eq, timingCheck_eq, deviceCheck_eq⟩

end Sys2Proof.Machine
end

section
/-! PROOF of O30, O31 and O32. The Time Base: the oscillator periods (R75, R76), the reference pulse (R80 to R84) and
the time requests (R87 to R89). -/

namespace Sys2Proof.Machine

open Sys2Proof

/-! ### One oscillator period (R75, R76) -/

theorem exec_oscillatorPeriod (s : State) :
    exec .oscillatorPeriod s = .next
      ((s.setTime s.time.period).setTicks (if s.time.tickFalls then s.ticks.deliver else s.ticks)) := rfl

section
variable (count : Quad) {fraction aApp : Int}

theorem advanceTime_carry (h : 1000000000 ≤ fraction + 8 * aApp) :
    advanceTime count fraction aApp = (count + 9, fraction + 8 * aApp - 1000000000) := by
  have hnine : count + 8 + 1 = count + 9 := BitVec.add_assoc count 8 1
  rw [← hnine]
  exact if_pos h

theorem advanceTime_borrow (h : fraction + 8 * aApp < 0) :
    advanceTime count fraction aApp = (count + 7, fraction + 8 * aApp + 1000000000) := by
  have hcarry : ¬ Config.attosPerNano ≤ fraction + 8 * aApp := fun e => absurd (e.trans_lt h) (by decide)
  have hseven : count + 8 - 1 = count + 7 := add_sub_assoc count 8 1
  rw [← hseven]
  exact (if_neg hcarry).trans (if_pos h)

theorem advanceTime_plain (h : 0 ≤ fraction + 8 * aApp) (h' : fraction + 8 * aApp < 1000000000) :
    advanceTime count fraction aApp = (count + 8, fraction + 8 * aApp) :=
  (if_neg (not_le.mpr h')).trans (if_neg (not_lt.mpr h))

/-- The three cases of a period, as one division with remainder: at most one carry or borrow. -/
theorem advanceTime_eq (h : 0 ≤ fraction) (h' : fraction < 1000000000) (ha : -500000 ≤ aApp) (ha' : aApp ≤ 500000) :
    advanceTime count fraction aApp =
      (count + BitVec.ofInt 64 (8 + (fraction + 8 * aApp) / 1000000000), (fraction + 8 * aApp) % 1000000000) := by
  rcases lt_or_ge (fraction + 8 * aApp) 0 with hlow | hlow
  · have hq : (fraction + 8 * aApp) / 1000000000 = -1 := by omega
    have hr : (fraction + 8 * aApp) % 1000000000 = fraction + 8 * aApp + 1000000000 := by omega
    rw [advanceTime_borrow count hlow, hq, hr]
    rfl
  · rcases lt_or_ge (fraction + 8 * aApp) 1000000000 with hhigh | hhigh
    · have hq : (fraction + 8 * aApp) / 1000000000 = 0 := by omega
      have hr : (fraction + 8 * aApp) % 1000000000 = fraction + 8 * aApp := by omega
      rw [advanceTime_plain count hlow hhigh, hq, hr]
      rfl
    · have hq : (fraction + 8 * aApp) / 1000000000 = 1 := by omega
      have hr : (fraction + 8 * aApp) % 1000000000 = fraction + 8 * aApp - 1000000000 := by omega
      rw [advanceTime_carry count hhigh, hq, hr]
      rfl

end

/-! ### A run of periods -/

/-- The Time Base after `n` periods: the count has gained 8n and the whole part of the accumulated fraction. -/
def TimeBase.afterPeriods (t : TimeBase) (n : Nat) : TimeBase :=
  { t with
    count := t.count + BitVec.ofInt 64 (8 * n + (t.fraction + 8 * n * t.aApp) / 1000000000)
    fraction := (t.fraction + 8 * n * t.aApp) % 1000000000
    periods := (t.periods + n) % 125000 }

theorem TimeBase.afterPeriods_zero {t : TimeBase} (h : t.sound) : t.afterPeriods 0 = t := by
  obtain ⟨hlow, hhigh, -, -, -, -, -, hperiods, -⟩ := h
  have hhigh' : t.fraction < 1000000000 := hhigh
  have hq : (8 * (0 : Nat) + (t.fraction + 8 * (0 : Nat) * t.aApp) / 1000000000 : Int) = 0 := by omega
  have hr : (t.fraction + 8 * (0 : Nat) * t.aApp) % 1000000000 = t.fraction := by omega
  have hp : (t.periods + 0) % 125000 = t.periods := Nat.mod_eq_of_lt hperiods
  unfold TimeBase.afterPeriods
  rw [hq, hr, hp]
  exact congrArg (fun count => { t with count := count }) (add_zero t.count)

theorem TimeBase.period_afterPeriods {t : TimeBase} (h : t.sound) (n : Nat) :
    (t.afterPeriods n).period = t.afterPeriods (n + 1) := by
  obtain ⟨-, -, -, -, happ, happ', -, -, -⟩ := h
  obtain ⟨sum, hsum⟩ : ∃ sum : Int, t.fraction + 8 * n * t.aApp = sum := ⟨_, rfl⟩
  have hnext : t.fraction + 8 * (n + 1 : Nat) * t.aApp = sum + 8 * t.aApp := by
    rw [← hsum]
    push_cast
    ring
  have hadvance := advanceTime_eq (t.count + BitVec.ofInt 64 (8 * n + sum / 1000000000))
    (Int.emod_nonneg sum (by decide)) (Int.emod_lt_of_pos sum (by decide : (0 : Int) < 1000000000)) happ happ'
  have hcount : (8 * n + sum / 1000000000) + (8 + (sum % 1000000000 + 8 * t.aApp) / 1000000000) =
      (8 * (n + 1 : Nat) + (sum + 8 * t.aApp) / 1000000000 : Int) := by
    push_cast
    omega
  have hfraction : (sum % 1000000000 + 8 * t.aApp) % 1000000000 = (sum + 8 * t.aApp) % 1000000000 := by omega
  have hadvanced : advanceTime (t.afterPeriods n).count (t.afterPeriods n).fraction (t.afterPeriods n).aApp =
      ((t.afterPeriods (n + 1)).count, (t.afterPeriods (n + 1)).fraction) := by
    unfold TimeBase.afterPeriods
    dsimp only
    rw [hsum, hnext, hadvance, BitVec.add_assoc, ← BitVec.ofInt_add, hcount, hfraction]
  have hperiods : (if (t.afterPeriods n).tickFalls then 0 else (t.afterPeriods n).periods + 1) =
      (t.afterPeriods (n + 1)).periods := by
    change (if decide (125000 ≤ (t.periods + n) % 125000 + 1) = true then 0 else (t.periods + n) % 125000 + 1) =
      (t.periods + (n + 1)) % 125000
    refine (if_congr decide_eq_true_iff rfl rfl).trans ?_
    split <;> omega
  unfold TimeBase.period
  rw [hadvanced, hperiods]
  rfl

/-- The ticks that a run of `n` periods has delivered at every place. -/
theorem owed_after (t : TimeBase) (n : Nat) (ticks : Ticks) (x : TickPlace) :
    (if (t.afterPeriods n).tickFalls then ticks.deliver else ticks).owed x + (t.periods + n) / 125000 =
      ticks.owed x + (t.periods + (n + 1)) / 125000 := by
  have hfalls : (t.afterPeriods n).tickFalls = decide (125000 ≤ (t.periods + n) % 125000 + 1) := rfl
  rw [hfalls]
  by_cases h : 125000 ≤ (t.periods + n) % 125000 + 1
  · rw [decide_eq_true h, if_pos rfl, Ticks.owed_deliver]
    omega
  · rw [decide_eq_false h, if_neg Bool.false_ne_true]
    omega

/-- A run of `n` periods changes the time value and the ticks owed, and nothing else. -/
theorem run_periods {run : Nat → State} (hsound : (run 0).time.sound) (n : Nat)
    (hrun : ∀ k < n, exec .oscillatorPeriod (run k) = .next (run (k + 1))) :
    run n = ((run 0).setTime ((run 0).time.afterPeriods n)).setTicks (run n).ticks ∧
      ∀ x, (run n).ticks.owed x = (run 0).ticks.owed x + ((run 0).time.periods + n) / 125000 := by
  induction n with
  | zero =>
    obtain ⟨-, -, -, -, -, -, -, hperiods, -⟩ := id hsound
    refine ⟨?_, fun x => ?_⟩
    · rw [TimeBase.afterPeriods_zero hsound]
      rfl
    · rw [Nat.add_zero, Nat.div_eq_of_lt (show _ < 125000 from hperiods), Nat.add_zero]
  | succ n ih =>
    obtain ⟨hstate, howed⟩ := ih fun k hk => hrun k (Nat.lt_succ_of_lt hk)
    have htime : (run n).time = (run 0).time.afterPeriods n := by rw [hstate]; rfl
    have hstep := (exec_oscillatorPeriod (run n)).symm.trans (hrun n n.lt_succ_self)
    rw [htime, TimeBase.period_afterPeriods hsound] at hstep
    have hnext := Host.Outcome.next.inj hstep
    have hrest : (run n).setTime ((run 0).time.afterPeriods (n + 1)) =
        ((run 0).setTime ((run 0).time.afterPeriods (n + 1))).setTicks (run n).ticks :=
      congrArg (fun u : State => u.setTime ((run 0).time.afterPeriods (n + 1))) hstate
    have hticks : (run (n + 1)).ticks =
        if ((run 0).time.afterPeriods n).tickFalls then (run n).ticks.deliver else (run n).ticks := by rw [← hnext]; rfl
    refine ⟨?_, fun x => ?_⟩
    · rw [hticks, ← hnext, hrest]
      rfl
    · have howed' := howed x
      have hdelivered := owed_after (run 0).time n (run n).ticks x
      rw [hticks]
      omega

/-- Settles O30: one period by its carry or borrow, and a run by induction. -/
theorem periodsAdvanceTimeExactly : Obligations.PeriodsAdvanceTimeExactly := by
  refine ⟨fun s => ?_, fun n run hsound hrun => ?_⟩
  · intro t f
    refine ⟨_, exec_oscillatorPeriod s, rfl, fun h => ?_, fun h => ?_, fun h h' => ?_, fun h => ?_, fun h => ?_, rfl⟩
    · exact ⟨congrArg Prod.fst (advanceTime_carry t.count h), congrArg Prod.snd (advanceTime_carry t.count h)⟩
    · exact ⟨congrArg Prod.fst (advanceTime_borrow t.count h), congrArg Prod.snd (advanceTime_borrow t.count h)⟩
    · exact ⟨congrArg Prod.fst (advanceTime_plain t.count h h'), congrArg Prod.snd (advanceTime_plain t.count h h')⟩
    · have hfalls : ¬ t.tickFalls = true := fun e => absurd (of_decide_eq_true e) (Nat.not_le.mpr h)
      exact ⟨if_neg hfalls, if_neg hfalls⟩
    · have hfalls : t.tickFalls = true := decide_eq_true h
      refine ⟨if_pos hfalls, fun x => ?_⟩
      exact (congrArg (fun ticks : Ticks => ticks.owed x) (if_pos hfalls)).trans (Ticks.owed_deliver _ _)
  · intro t sum
    obtain ⟨hstate, howed⟩ := run_periods hsound n hrun
    have htime : (run n).time = t.afterPeriods n := by rw [hstate]; rfl
    refine ⟨htime, howed, ?_, fun hn => ?_⟩
    · rw [hstate]
      rfl
    · obtain ⟨hlow, hhigh, -⟩ := hsound
      have hlow' : 0 ≤ t.fraction := hlow
      have hhigh' : t.fraction < 1000000000 := hhigh
      have hsum : sum = t.fraction + 1000000000 * t.aApp := by
        change t.fraction + 8 * (n : Int) * t.aApp = _
        rw [hn]
        norm_num
      have hq : (8 * n + sum / 1000000000 : Int) = 1000000000 + t.aApp := by omega
      have hr : sum % 1000000000 = t.fraction := by omega
      rw [htime]
      exact ⟨congrArg (fun k => t.count + BitVec.ofInt 64 k) hq, hr⟩

/-! ### Steps and states (R91 to R93) -/

/-- Entering a time-base state, with the interrupt on a change. -/
theorem State.enterTimeState_eq (s : State) (x : TimeState) :
    s.enterTimeState x =
      { s with
        time := { s.time with state := x }
        chan := if s.time.state = x then s.chan
          else { s.chan with pendingIrq := { s.chan.pendingIrq with timeState := true } } } := by
  unfold State.enterTimeState
  dsimp only
  split <;> rfl

/-! ### The time requests (R87 to R89) -/

/-- Settles O32: SET-TIME and ADJUST-TIME by the state, WRITE-TIMING by its image. -/
theorem timeRequestsSetTheTimeBase : Obligations.TimeRequestsSetTheTimeBase := by
  intro s t c stepped
  refine ⟨fun v => ⟨fun hs => applies_of_settle_eq rfl ?_ rfl, fun hs => applies_of_settle_eq rfl ?_ rfl⟩,
    fun offset => ⟨fun hs => applies_of_settle_eq rfl (if_pos hs) rfl,
      fun hs => applies_of_settle_eq rfl (if_neg hs) rfl⟩,
    fun image => ⟨fun cause hc => applies_of_fault rfl hc, fun hc => applies_of_pass rfl hc rfl rfl⟩⟩
  · have hset : ¬ s.time.state = .set := fun e => nomatch hs.symm.trans e
    unfold applySetTime
    dsimp only
    rw [if_pos hs, State.enterTimeState_eq]
    exact congrArg
      (fun chan => (({ s with time := { t with state := .set, count := v, fraction := 0 }, chan := chan } : State),
        Reply.done)) (if_neg hset)
  · unfold applySetTime
    dsimp only
    rw [if_neg hs]
    rfl

/-! ### The reference pulse (R80 to R84) -/

/-- The pulse error is the distance from the nearest whole second, halves up (R81). -/
theorem pulseError_eq {count : Quad} {e k : Int} (h : (count.toNat : Int) - e = 1000000000 * k)
    (hlow : -500000000 ≤ e) (hhigh : e ≤ 499999999) : pulseError count = e := by
  have hk : ((count.toNat : Int) + 500000000) / 1000000000 = k := by omega
  change (count.toNat : Int) - 1000000000 * (((count.toNat : Int) + 500000000) / 1000000000) = e
  rw [hk]
  omega

/-- A step brings the count to the whole second (R83). -/
theorem count_sub_error {count : Quad} {e k : Int} (h : (count.toNat : Int) - e = 1000000000 * k) :
    count - BitVec.ofInt 64 e = BitVec.ofInt 64 (1000000000 * k) := by
  have hcount : count = BitVec.ofInt 64 (1000000000 * k) + BitVec.ofInt 64 e := by
    rw [← BitVec.ofInt_add, ← h, sub_add_cancel, BitVec.ofInt_natCast, BitVec.ofNat_toNat, BitVec.setWidth_eq]
  rw [hcount, add_sub_cancel_right]

section
variable {s : State}

theorem referencePulse_ignored (h : s.time.state = .unset) :
    exec .referencePulse s =
      .next (s.countDevice fun c => { c with pulsesIgnored := satInc Config.max32 c.pulsesIgnored }) := if_pos h

theorem guarding_iff (t : TimeBase) : t.guarding = true ↔ ∃ v < 500, t.supervision = some v := by
  unfold TimeBase.guarding
  simp only [Option.any_eq_true, decide_eq_true_eq]
  exact exists_congr fun v => and_comm

theorem referencePulse_spurious (h : s.time.state ≠ .unset) (hg : s.time.guarding = true) :
    exec .referencePulse s =
      .next (s.countDevice fun c => { c with spuriousPulses := satInc Config.max32 c.spuriousPulses }) :=
  (if_neg h).trans (if_pos hg)

theorem referencePulse_accepted (h : s.time.state ≠ .unset) (hg : s.time.guarding = false) :
    exec .referencePulse s = .next (s.correctBy (pulseError s.time.count)) :=
  (if_neg h).trans (if_neg fun e => Bool.false_ne_true (hg.symm.trans e))

/-- A pulse within the step limit corrects both adjustments (R82). -/
theorem correctBy_rate {e : Int} (h : e.natAbs ≤ max s.time.stepLimit.toNat 1) :
    s.correctBy e =
      (s.setTime (({ s.time with supervision := some 0, lastError := e } : TimeBase).correctRate e)).enterTimeState
        .tracking := congrArg (State.enterTimeState .tracking) (if_pos h)

theorem correctBy_step {e : Int} (h : max s.time.stepLimit.toNat 1 < e.natAbs) :
    s.correctBy e =
      ((s.setTime
        (({ s.time with supervision := some 0, lastError := e } : TimeBase).correctStep e)).makeStep).enterTimeState
        .tracking := congrArg (State.enterTimeState .tracking) (if_neg (Nat.not_le.mpr h))

end

/-- Settles O31: the pulse by the first case that applies, and the tick that enters HOLDOVER. -/
theorem referencePulseDisciplinesTheCount : Obligations.ReferencePulseDisciplinesTheCount := by
  intro s e k hwhole hlow hhigh t c told rate
  have herror : pulseError s.time.count = e := pulseError_eq hwhole hlow hhigh
  refine ⟨fun h => referencePulse_ignored h,
    fun v hv h hs => referencePulse_spurious h ((guarding_iff _).mpr ⟨v, hv, hs⟩),
    fun h hs => ?_, fun ho htracking v hv hlate => ?_, fun h => ?_⟩
  · have hguard : s.time.guarding = false := Bool.eq_false_iff.mpr fun hg => by
      obtain ⟨v, hv, hsup⟩ := (guarding_iff _).mp hg
      exact hs v hv hsup
    have haccepted := referencePulse_accepted h hguard
    rw [herror] at haccepted
    refine ⟨fun hrate => haccepted.trans ?_, fun hstep => haccepted.trans ?_⟩
    · have hadjusted (g : BitVec 3) (a : Int) : clampAdjustment (a - roundedShift e g.toNat) = rate g a := by
        rw [roundedShift_eq]
        rfl
      clear_value rate
      rw [correctBy_rate hrate, State.enterTimeState_eq]
      unfold TimeBase.correctRate
      dsimp only
      rw [hadjusted, hadjusted]
      rfl
    · rw [correctBy_step hstep, State.enterTimeState_eq]
      unfold TimeBase.correctStep
      dsimp only
      rw [count_sub_error hwhole]
      rfl
  · have hreached : s.time.supervision.map (fun v => min (v + 1) 1500) = some 1500 := by
      rw [hv, Option.map_some, Nat.min_eq_right (by omega)]
    have hdue : s.advanceSupervision.time.holdoverDue = true :=
      Bool.and_eq_true_iff.mpr ⟨decide_eq_true htracking, decide_eq_true hreached⟩
    have hexec : exec .holdoverEntry s = exec (.millisecondTick .supervision) s :=
      congrArg Host.Outcome.next (if_pos hdue)
    exact ⟨hexec, _, hexec, (State.tick_effect ho).trans ((supervisionTick_eq s).trans (if_pos ⟨htracking, hreached⟩))⟩
  · refine congrArg Host.Outcome.next ?_
    rcases h with ho | h
    · rw [State.tick_of_none ho, ite_self]
    · refine if_neg fun hdue => ?_
      obtain ⟨htracking, hreached⟩ := Bool.and_eq_true_iff.mp hdue
      have hreached' : s.time.supervision.map (fun v => min (v + 1) 1500) = some 1500 := of_decide_eq_true hreached
      obtain ⟨v, hv, hlate⟩ := Option.map_eq_some_iff.mp hreached'
      rcases h with h | h
      · exact h (of_decide_eq_true htracking)
      · have hearly := h v hv
        omega

end Sys2Proof.Machine
end

section
/-! PROOF of O41, O43, O44, O45 and O60. The Route Table's triggers and requests (R127 to R129, R136 to R139), the words
of the Steering Port (R143 to R146, R184), and the soundness of the state after reset. -/

namespace Sys2Proof.Machine

open Sys2Proof

/-- Settles O60: the state after reset has the tables of one that a power-on reset leaves. -/
theorem resetIsSound : Obligations.ResetIsSound := by
  obtain ⟨hhops, hholds⟩ := powerOn_hopsAndHolds State.reset
  obtain ⟨hpaths, hslots, hroutes⟩ := powerOn_linksSound State.reset
  exact {
    attention := powerOn_attentionSound State.reset
    hops := hhops
    holds := hholds
    paths := hpaths
    slots := hslots
    routes := hroutes
    time := TimeBase.initial_sound
    queues := ⟨Nat.zero_le _, Nat.zero_le _, nofun⟩
    chan := Channel.sound_of_cleared rfl rfl rfl }

/-! ### Triggers and the scan (R128, R129) -/

/-- A trigger concerns a non-vacant route by its hop, its path, or whatever it holds (R128). -/
theorem marks_iff (s : State) (w : Trigger) (r : Route) :
    s.marks w r = true ↔ r.state ≠ .vacant ∧
      match w with
        | .hop h => ∃ p ∈ r.candidates, h ∈ s.paths[p].body.hops
        | .path p => p ∈ r.candidates ∨ r.fallback = some p
        | .all => True := by
  unfold State.marks
  rw [Bool.and_eq_true, Route.nonVacant_iff]
  refine and_congr_right fun _ => ?_
  cases w with
  | hop h => simp only [List.any_eq_true, List.contains_iff_mem]
  | path p => simp only [Route.holds, Bool.or_eq_true, List.contains_iff_mem, decide_eq_true_eq]
  | all => exact iff_of_true rfl trivial

theorem mark_route (s : State) (marked : Route → Bool) (i : RouteIndex) :
    (s.mark marked).routes[i] = { s.routes[i] with rerank := s.routes[i].rerank || marked s.routes[i] } := by
  have hroute : (s.mark marked).routes[i] =
      if marked s.routes[i] then { s.routes[i] with rerank := true } else s.routes[i] := table_map _ _ _
  rw [hroute]
  cases marked s.routes[i] with
  | false => exact congrArg (fun b => { s.routes[i] with rerank := b }) (Bool.or_false _).symm
  | true => exact congrArg (fun b => { s.routes[i] with rerank := b }) (Bool.or_true _).symm

/-- Settles O41: a trigger's marks, and the scan from the service pointer. -/
theorem triggersMarkAndScanRecomputes : Obligations.TriggersMarkAndScanRecomputes := by
  intro s
  refine ⟨fun w hw => ?_, fun h => ?_, fun k hk i hi hmarked hfirst => ?_⟩
  · obtain ⟨t, ht⟩ : ∃ t, { s.mark (s.marks w) with triggers := s.triggers.erase w } = t := ⟨_, rfl⟩
    have hexec : exec (.reRankTrigger w) s = .next t := ht ▸ if_pos (List.contains_iff_mem.mpr hw)
    have hroute (i : RouteIndex) : t.routes[i] =
        { s.routes[i] with rerank := s.routes[i].rerank || s.marks w s.routes[i] } := ht ▸ mark_route s _ i
    refine ⟨t, hexec, fun i => ⟨?_, ?_⟩, ?_, ?_⟩
    · have hmarks := marks_iff s w s.routes[i]
      rw [hroute, Bool.or_eq_true]
      cases w <;> exact or_congr_right hmarks
    · rw [hroute]
    · rw [← ht]
    · rw [← ht]
      rfl
  · have hnone : s.nextMarked = none := by
      refine List.find?_eq_none.mpr fun i hi => ?_
      rw [h i]
      exact Bool.false_ne_true
    change execRecomputation s = _
    unfold execRecomputation
    rw [hnone]
  · have hnext : s.nextMarked = some i :=
      (find?_map_range (fun k => Fin.ofNat 32 (s.service.val + k)) _ 32 i).mpr ⟨k, hk, hi, hmarked, hfirst⟩
    change execRecomputation s = _
    unfold execRecomputation
    rw [hnext]
    rfl

/-! ### WRITE-CLASS and COLLECT (R127, R136) -/

theorem putHop_clears {s : State} {i : HopIndex} (h : s.hops[i].attention = true) :
    s.putHop i { s.hops[i] with attention := false } =
      { s with
        hops := s.hops.set i { s.hops[i] with attention := false }
        attentionCount := s.attentionCount - 1 } := by
  unfold State.putHop
  rw [h]
  rfl

theorem putRoute_clears {s : State} {i : RouteIndex} (h : s.routes[i].attention = true) :
    s.putRoute i { s.routes[i] with attention := false } =
      { s with
        routes := s.routes.set i { s.routes[i] with attention := false }
        attentionCount := s.attentionCount - 1 } := by
  unfold State.putRoute
  rw [h]
  rfl

/-- Settles O43: the written policy with what follows from it, and the oldest notice. -/
theorem classWriteAndCollect : Obligations.ClassWriteAndCollect := by
  intro s
  refine ⟨fun c image => ⟨fun cause hc => applies_of_fault rfl hc, fun hc => ?_⟩, fun i hi hfirst => ?_,
    fun hhops => ⟨fun i hi hfirst => ?_, fun hroutes => ?_⟩⟩
  · exact ⟨_, applies_of_pass rfl hc rfl rfl, fun d => table_set _ _ _ _, fun i => table_map _ _ _, rfl⟩
  · have hhop : s.attentiveHop = some i := find?_finRange_eq_some.mpr ⟨hi, hfirst⟩
    refine applies_of_settle_eq rfl (out := applyCollect s) ?_ rfl
    unfold applyCollect
    rw [hhop]
    dsimp only
    rw [putHop_clears hi]
    have hprofile : BitVec.ofNat 8 s.hops[i].profile.toNat = s.hops[i].profile.setWidth 8 := BitVec.ofNat_toNat ..
    have hnotice : hopNotice i s.hops[i] =
        [1, BitVec.ofNat 8 i, s.hops[i].state.code, 1, s.hops[i].profile.setWidth 8, 0, 0, 0] := hprofile ▸ rfl
    rw [hnotice]
    rfl
  · have hhop : s.attentiveHop = none := find?_finRange_eq_none.mpr hhops
    have hroute : s.attentiveRoute = some i := find?_finRange_eq_some.mpr ⟨hi, hfirst⟩
    refine applies_of_settle_eq rfl (out := applyCollect s) ?_ rfl
    unfold applyCollect
    rw [hhop, hroute]
    dsimp only
    rw [putRoute_clears hi]
    rfl
  · have hhop : s.attentiveHop = none := find?_finRange_eq_none.mpr hhops
    have hroute : s.attentiveRoute = none := find?_finRange_eq_none.mpr hroutes
    refine applies_of_settle_eq rfl (out := applyCollect s) ?_ rfl
    unfold applyCollect
    rw [hhop, hroute]
    rfl

/-! ### WRITE-ROUTE and RETIRE-ROUTE (R137 to R139) -/

theorem putRoute_work {s : State} (i : RouteIndex) (x : Route) : (s.putRoute i x).chan.work = s.chan.work := by
  have hwork := congrArg Channel.work (State.putRoute_engine i x s)
  exact hwork

/-- Settles O44: the image that fails, the rewritten record, and the emptied one. -/
theorem routeRequestsRewriteAndRetire : Obligations.RouteRequestsRewriteAndRetire := by
  intro i s r
  refine ⟨fun image cause hc => applies_of_fault rfl hc, fun image hc => applies_of_pass rfl hc ?_ ?_,
    applies_of_settle_eq rfl rfl (putRoute_work _ _)⟩
  · have hrewrite : r.rewrite image =
        { r with
          candidates := (image.candidates.toList.take image.count.toNat).map fun b => Fin.ofNat 128 b.toNat
          fallback := if image.fallbackPresent = 1 then some (Fin.ofNat 128 image.fallback.toNat) else none
          refLength := image.refLength.setWidth 14
          contexts := Vector.replicate 4 ⟨false, 0⟩
          counters := if r.state = .vacant then ⟨0, 0, 0, 0⟩ else r.counters
          attention := r.attention || decide (r.state = .vacant)
          generation := r.generation + 1 } := by
      unfold Route.rewrite Route.nonVacant
      by_cases hv : r.state = .vacant
      · rw [if_pos hv, decide_eq_true hv, decide_eq_false (not_not.mpr hv)]
        rfl
      · rw [if_neg hv, decide_eq_false hv, decide_eq_true hv]
        rfl
    rw [← hrewrite]
    rfl
  · exact putRoute_work _ _

/-! ### The words of the Steering Port (R143 to R146, R184) -/

theorem requestLength_eq (w : Word) : requestLength w = BitVec.ofNat 14 (max (w.extractLsb' 0 14).toNat 1) := by
  unfold requestLength
  dsimp only
  split
  · rename_i h
    rw [h]
    rfl
  · rename_i h
    have hpos : (w.extractLsb' 0 14).toNat ≠ 0 := fun e => h (BitVec.eq_of_toNat_eq e)
    rw [Nat.max_eq_left (Nat.one_le_iff_ne_zero.mpr hpos), BitVec.ofNat_toNat, BitVec.setWidth_eq]

theorem ready_iff (g : SteeringPort) : g.ready = true ↔ g.queue.length < 16 := decide_eq_true_iff

/-- Settles O45: by the room in the queue, the word that waits, and the words taken. -/
theorem steeringWordsPassInOrder : Obligations.SteeringWordsPassInOrder := by
  intro w s g
  refine ⟨fun h => ?_, fun h hr => ?_, fun first h hr => ?_, fun a k ha => ⟨fun hk => ?_, fun hk => ?_⟩⟩
  · exact if_neg fun e => Nat.not_lt.mpr h ((ready_iff g).mp e)
  · refine (if_pos ((ready_iff g).mpr h)).trans ?_
    rw [show s.steering.request = none from hr]
    rfl
  · refine (if_pos ((ready_iff g).mpr h)).trans ?_
    rw [show s.steering.request = some first from hr, ← requestLength_eq]
    rfl
  · change execAnswerWordTaken s = _
    unfold execAnswerWordTaken
    rw [show s.steering.answer = some ⟨a, k⟩ from ha]
    dsimp only
    rw [if_neg (show ¬ Config.answerWords ≤ k + 1 from Nat.not_le.mpr (Nat.succ_lt_succ hk))]
    rfl
  · subst hk
    change execAnswerWordTaken s = _
    unfold execAnswerWordTaken
    rw [show s.steering.answer = some ⟨a, 5⟩ from ha]
    rfl

end Sys2Proof.Machine
end

section
/-! PROOF of O47. What an OK answer promises: the verdict behind it names a contender of the lookup, its times are
those of the choice that stands or of the one remade without the bound (R151 to R153, R155), and the context moves
with its arrival (R154). -/

namespace Sys2Proof.Machine

open Sys2Proof

section
variable {s : State} {r : Route} {q : Lookup} {cs : List Contender} {v : Verdict}

/-! ### The verdict behind an OK answer -/

theorem firstBest_mem {α : Type} {better : α → α → Bool} {key : α → Nat}
    (hk : ∀ a b, better a b = decide (key a < key b)) {l : List α} {x : α} (h : firstBest better l = some x) :
    x ∈ l := by
  obtain ⟨i, hi, rfl, -⟩ := firstBest_spec hk h
  exact List.getElem_mem hi

/-- An OK answer is that of a verdict on the contenders. -/
theorem State.verdict_of_code_ok (h : (s.compute q).1.code = .ok) :
    ∃ v, s.verdict s.routes[q.site] q (s.contenders s.routes[q.site] q.cls q.length.toNat) = some v ∧
      s.compute q = (s.okAnswer q v, s.afterOk s.routes[q.site] q v) := by
  by_cases hvacant : s.routes[q.site].state = .vacant
  · rw [State.compute_noRoute rfl hvacant] at h
    cases h
  cases hverdict : s.verdict s.routes[q.site] q (s.contenders s.routes[q.site] q.cls q.length.toNat) with
  | some v => exact ⟨v, rfl, State.compute_ok rfl hvacant hverdict⟩
  | none =>
    have hnone : (s.compute q).1.code = .noPath := by
      simp only [State.compute, Route.nonVacant_iff.mpr hvacant, hverdict]
      rfl
    rw [hnone] at h
    cases h

/-- The verdict of a time-invalid lookup: some contender, with every time 0 (R155). -/
theorem State.verdict_timeInvalid_spec (ht : s.timeValid q = false) (h : s.verdict r q cs = some v) :
    ∃ c ∈ cs, v = ⟨c, 0, 0, 0, false⟩ := by
  rw [State.verdict, ht, if_neg Bool.false_ne_true, Option.map_eq_some_iff] at h
  obtain ⟨c, hc, rfl⟩ := h
  exact ⟨c, firstBest_mem (key := Contender.latency) (fun _ _ => rfl) hc, rfl⟩

/-- The verdict of a time-valid lookup: the bounded offer of some contender, held no longer than the class allows, or
the unbounded one of some contender, without the bound (R152, R153). -/
theorem State.verdict_timeValid_spec (ht : s.timeValid q = true) (h : s.verdict r q cs = some v) :
    ∃ c ∈ cs,
      ((s.offerFor r q c).hold.toNat ≤ s.classes[q.cls].maxHold.toNat ∧
        v = ⟨c, s.earliest q + (s.offerFor r q c).hold, (s.offerFor r q c).bounded, (s.offerFor r q c).hold,
          false⟩) ∨
      v = ⟨c, s.earliest q, (s.offerFor r q c).unbounded, 0, true⟩ := by
  rw [State.verdict, if_pos ht] at h
  change chooseOffer (s.earliest q) _ (cs.map (s.offerFor r q)) = _ at h
  unfold chooseOffer at h
  cases hbest : firstBest Offer.beats (cs.map (s.offerFor r q)) with
  | none =>
    rw [hbest] at h
    cases h
  | some o =>
    rw [hbest] at h
    obtain ⟨c, hc, rfl⟩ := List.mem_map.mp (firstBest_mem beats_key hbest)
    dsimp only at h
    split at h
    · rename_i hhold
      exact ⟨c, hc, .inl ⟨hhold, (Option.some_inj.mp h).symm⟩⟩
    · obtain ⟨w, hw, rfl⟩ := Option.map_eq_some_iff.mp h
      obtain ⟨d, hd, rfl⟩ := List.mem_map.mp (firstBest_mem earlier_key hw)
      exact ⟨d, hd, .inr rfl⟩

theorem State.verdict_mem (h : s.verdict r q cs = some v) : v.contender ∈ cs := by
  cases ht : s.timeValid q with
  | false =>
    obtain ⟨c, hc, rfl⟩ := State.verdict_timeInvalid_spec ht h
    exact hc
  | true =>
    obtain ⟨c, hc, ⟨-, rfl⟩ | rfl⟩ := State.verdict_timeValid_spec ht h
    · exact hc
    · exact hc

/-- A contender is what the route holds, and usable. -/
theorem State.contender_usable {c : ClassIndex} {n : Nat} {x : Contender} (h : x ∈ s.contenders r c n) :
    (x.path ∈ r.candidates ∨ r.fallback = some x.path) ∧ s.pathUsable c x.path = true := by
  rw [State.contenders_eq, List.mem_append] at h
  rcases h with h | h
  · obtain ⟨p, hp, hu, rfl⟩ := State.mem_candidateContenders.mp h
    exact ⟨.inl hp, hu⟩
  · obtain ⟨p, hf, hu, -, rfl⟩ := State.mem_fallbackContenders.mp h
    exact ⟨.inr hf, hu⟩

theorem State.hops_of_pathUsable {c : ClassIndex} {p : PathIndex} (h : s.pathUsable c p = true) :
    ∀ i ∈ s.paths[p].body.hops, s.held i = false ∧ s.hops[i].state ≠ .faded ∧ s.hops[i].state ≠ .down := by
  intro i hi
  obtain ⟨-, -, -, hall⟩ := pathUsable_iff.mp h
  obtain ⟨hheld, hclear | ⟨hfading, -⟩⟩ := hopUsable_iff.mp (hall i hi)
  · rw [hclear]
    exact ⟨hheld, nofun, nofun⟩
  · rw [hfading]
    exact ⟨hheld, nofun, nofun⟩

/-! ### The times of a verdict (R151 to R153) -/

/-- A time-valid verdict is held no longer than the class allows, and not at all where the order is waived. -/
theorem State.verdict_hold (ht : s.timeValid q = true) (h : s.verdict r q cs = some v) :
    v.hold.toNat ≤ s.classes[q.cls].maxHold.toNat ∧ (v.waived = true → v.hold = 0) := by
  obtain ⟨c, -, ⟨hhold, rfl⟩ | rfl⟩ := State.verdict_timeValid_spec ht h
  · exact ⟨hhold, fun hw => absurd hw Bool.false_ne_true⟩
  · exact ⟨Nat.zero_le _, fun _ => rfl⟩

/-- It departs the hold after the earliest departure. -/
theorem State.verdict_departure (ht : s.timeValid q = true) (h : s.verdict r q cs = some v) :
    v.departure = s.earliest q + v.hold := by
  obtain ⟨c, -, ⟨-, rfl⟩ | rfl⟩ := State.verdict_timeValid_spec ht h
  · rfl
  · exact (BitVec.add_zero _).symm

/-- Where the bound applies and is not waived, the arrival is not before it. -/
theorem State.verdict_arrival (ht : s.timeValid q = true) (h : s.verdict r q cs = some v)
    (horder : s.classes[q.cls].ordering = true) (hvalid : r.contexts[q.cls].valid = true)
    (htaken : s.routeTaken = s.time.epoch) (hw : v.waived = false) :
    r.contexts[q.cls].last + s.classes[q.cls].gap.setWidth 64 ≤ v.arrival := by
  obtain ⟨c, -, ⟨-, rfl⟩ | rfl⟩ := State.verdict_timeValid_spec ht h
  · dsimp only
    rw [State.offerFor_bounded]
    split
    · exact BitVec.le_refl _
    · rename_i hbound
      exact BitVec.not_lt.mp fun hlt => hbound ⟨horder, by rw [hvalid, decide_eq_true htaken]; rfl, hlt⟩
  · cases hw

theorem State.earliest_add_le (hold : Quad) {max : Nat} (hhold : hold.toNat ≤ max)
    (hfits : q.stamp.toNat + s.probe.lead.toNat + max < 2 ^ 64) :
    q.stamp.toNat + s.probe.lead.toNat ≤ (s.earliest q + hold).toNat := by
  have hlead := s.probe.lead.isLt
  rw [State.earliest, BitVec.toNat_add, BitVec.toNat_add, BitVec.toNat_setWidth]
  omega

/-- A sum with a gap that does not wrap is compared as a number. -/
theorem add_gap_le {last a : Quad} {gap : Half} (h : last + gap.setWidth 64 ≤ a)
    (hfits : last.toNat + gap.toNat < 2 ^ 64) : last.toNat + gap.toNat ≤ a.toNat := by
  have hgap := gap.isLt
  rw [BitVec.le_def, BitVec.toNat_add, BitVec.toNat_setWidth] at h
  omega

/-! ### The context after an OK answer (R154) -/

/-- A time-invalid answer leaves the contexts. -/
theorem State.afterOk_contexts_timeInvalid (ht : s.timeValid q = false) :
    (s.afterOk r q v).contexts = r.contexts := by
  rw [State.afterOk_eq]
  exact if_neg fun h => Bool.false_ne_true (ht.symm.trans h.1)

/-- A time-valid answer of a class with ordering on records its arrival, and never moves a valid context back. -/
theorem State.afterOk_context (ht : s.timeValid q = true) (horder : s.classes[q.cls].ordering = true) :
    (s.afterOk r q v).contexts[q.cls].valid = true ∧
      v.arrival ≤ (s.afterOk r q v).contexts[q.cls].last ∧
      (r.contexts[q.cls].valid = true → s.routeTaken = s.time.epoch →
        r.contexts[q.cls].last ≤ (s.afterOk r q v).contexts[q.cls].last) := by
  have hcontexts : (s.afterOk r q v).contexts[q.cls] = updatedContext (s.contextAsRead r q.cls) v.arrival := by
    unfold State.afterOk
    dsimp only
    rw [ht, horder]
    exact table_set_self _ _ _
  rw [hcontexts]
  unfold State.contextAsRead
  cases hread : r.contexts[q.cls].valid && decide (s.routeTaken = s.time.epoch) with
  | false =>
    refine ⟨rfl, BitVec.le_refl _, fun hvalid htaken => ?_⟩
    rw [hvalid, decide_eq_true htaken] at hread
    cases hread
  | true =>
    refine ⟨rfl, ?_, fun _ _ => ?_⟩
    · simp only [updatedContext, if_true]
      split
      · exact BitVec.le_refl _
      · exact BitVec.not_lt.mp ‹_›
    · simp only [updatedContext, if_true]
      split
      · exact BitVec.le_of_lt ‹_›
      · exact BitVec.le_refl _

end

/-- Settles O47: an OK answer is that of a verdict, whose contender is usable and whose times are its choice's. -/
theorem okAnswersAreUsableTimelyAndOrdered : Obligations.OkAnswersAreUsableTimelyAndOrdered := by
  intro s t q rest x hstage hqueue hexec hanswer hok policy old new
  obtain rfl : s.answerHead q rest (s.compute q).1 (s.compute q).2 = t :=
    Host.Outcome.next.inj ((exec_lookupComputation_head hstage hqueue).symm.trans hexec)
  obtain rfl : (s.compute q).1 = x := congrArg AnswerStage.answer (Option.some_inj.mp hanswer)
  obtain ⟨v, hverdict, hcompute⟩ := State.verdict_of_code_ok hok
  have hnew : new = (s.afterOk s.routes[q.site] q v).contexts[q.cls] := by
    have hroute : (s.answerHead q rest (s.compute q).1 (s.compute q).2).routes[q.site] = (s.compute q).2 :=
      table_set_self _ _ _
    change (s.answerHead q rest (s.compute q).1 (s.compute q).2).routes[q.site].contexts[q.cls] = _
    rw [hroute, hcompute]
  rw [hnew, hcompute]
  clear hnew hok hanswer hexec
  clear_value new
  obtain ⟨hheld, husable⟩ := State.contender_usable (State.verdict_mem hverdict)
  refine ⟨hheld, husable, rfl, State.hops_of_pathUsable husable, fun hlate => ?timeInvalid, fun hintime => ?timeValid⟩
  case timeInvalid =>
    have ht : s.timeValid q = false := by simpa only [State.okAnswer, Bool.not_eq_true'] using hlate
    obtain ⟨c, -, rfl⟩ := State.verdict_timeInvalid_spec ht hverdict
    exact ⟨rfl, rfl, rfl, rfl, rfl, congrArg (·[q.cls]) (State.afterOk_contexts_timeInvalid ht)⟩
  case timeValid =>
    have ht : s.timeValid q = true := by simpa only [State.okAnswer, Bool.not_eq_false'] using hintime
    obtain ⟨hhold, hwaived⟩ := State.verdict_hold ht hverdict
    refine ⟨hhold, hwaived, fun hfits => ?departure, fun horder => ?order⟩
    case departure =>
      change _ ≤ v.departure.toNat
      rw [State.verdict_departure ht hverdict]
      exact State.earliest_add_le _ hhold hfits
    case order =>
      obtain ⟨hvalid, harrival, hforward⟩ := State.afterOk_context (r := s.routes[q.site]) (v := v) ht horder
      exact ⟨hvalid, harrival, fun hold htaken => ⟨hforward hold htaken, fun hw hfits =>
        add_gap_le (State.verdict_arrival ht hverdict horder hold htaken hw) hfits⟩⟩

end Sys2Proof.Machine
end

section
/-! PROOF of O29, the layouts (R193 to R196). An image is laid out part by part: each part says
what is read at its offset, and stands in front of the parts behind it. -/

namespace Sys2Proof.Machine

open Sys2Proof

/-! ### What is read of an image -/

/-- A number at an offset, over `n` bytes. -/
def fieldIs (off n x : Nat) : List Byte → Prop := fun m => imageField m off n = x

/-- A number in two's complement, in 4 bytes (R193). -/
def signedIs (off : Nat) (x : Int) : List Byte → Prop := fun m => (imageField m off 4 : Int) = x % 4294967296

/-- A list of indices in `k` bytes, 0 beyond its end (R193). -/
def indicesAre {b : Nat} (off k : Nat) (l : List (Fin b)) : List Byte → Prop := fun m =>
  ∀ j < k, imageField m (off + j) 1 = (l[j]?.map Fin.val).getD 0

/-- A number of `n` bytes for each record of a table, in the order of the records. -/
def recordsAre {k : Nat} (off n : Nat) (v : Fin k → Nat) : List Byte → Prop := fun m =>
  ∀ i : Fin k, imageField m (off + n * i.val) n = v i

/-- A byte with a bit for each record of a table. -/
def bitsAre {k : Nat} (off : Nat) (v : Fin k → Bool) : List Byte → Prop := fun m =>
  ∀ i : Fin k, (imageField m off 1).testBit i.val = v i

/-- A byte that is below a bound. -/
def byteBelow (off bound : Nat) : List Byte → Prop := fun m => imageField m off 1 < bound

/-- Numbers of 4 bytes, one behind the other. -/
def numbersAre (off : Nat) (l : List Nat) : List Byte → Prop := fun m =>
  (List.range l.length).map (fun j => imageField m (off + 4 * j) 4) = l.map (· % 4294967296)

/-- An image shows every part. -/
def Shows (m : List Byte) : List (List Byte → Prop) → Prop
  | [] => True
  | [p] => p m
  | p :: q :: rest => p m ∧ Shows m (q :: rest)

/-! ### How bytes are laid out -/

/-- An image has the bytes of `a` from an offset on. -/
def StandsAt (a m : List Byte) (off : Nat) : Prop :=
  ∀ j n, j + n ≤ a.length → imageField m (off + j) n = imageField a j n

/-- `n` bytes whose part is read wherever they stand at the offset. -/
def Laid (off n : Nat) (a : List Byte) (p : List Byte → Prop) : Prop :=
  a.length = n ∧ ∀ m, StandsAt a m off → p m

/-- Bytes from one offset to another whose parts are shown wherever they stand at the first. -/
def LaidOut (off : Nat) (a : List Byte) (fin : Nat) (parts : List (List Byte → Prop)) : Prop :=
  off + a.length = fin ∧ ∀ m, StandsAt a m off → Shows m parts

theorem StandsAt.self (a : List Byte) : StandsAt a a 0 := fun j n _ => by rw [Nat.zero_add]

section
variable {a b m : List Byte} {off : Nat}

theorem StandsAt.left (h : StandsAt (a ++ b) m off) : StandsAt a m off := fun j n hj => by
  rw [h j n (by rw [List.length_append]; omega), imageField_append_left hj]

theorem StandsAt.right (h : StandsAt (a ++ b) m off) : StandsAt b m (off + a.length) := fun j n hj => by
  rw [Nat.add_assoc, h (a.length + j) n (by rw [List.length_append]; omega),
    imageField_append_right (Nat.le_add_right _ _), Nat.add_sub_cancel_left]

theorem Shows.cons {p : List Byte → Prop} {parts : List (List Byte → Prop)} (hp : p m) (h : Shows m parts) :
    Shows m (p :: parts) := by
  cases parts with
  | nil => exact hp
  | cons q rest => exact ⟨hp, h⟩

section
variable {n off' fin : Nat} {p q : List Byte → Prop} {parts : List (List Byte → Prop)}

theorem LaidOut.last (ha : Laid off n a p) (hoff : off + n = fin := by rfl) : LaidOut off a fin [p] :=
  ⟨ha.1.symm ▸ hoff, ha.2⟩

/-- A part stands in front of the others. -/
theorem LaidOut.cons (ha : Laid off n a p) (hb : LaidOut off' b fin parts) (hoff : off + n = off' := by rfl) :
    LaidOut off (a ++ b) fin (p :: parts) := by
  obtain ⟨rfl, hp⟩ := ha
  subst hoff
  obtain ⟨rfl, hparts⟩ := hb
  refine ⟨?_, fun m h => Shows.cons (hp m h.left) (hparts m h.right)⟩
  rw [List.length_append, Nat.add_assoc]

/-- A single byte stands in front of the others. -/
theorem LaidOut.byte {x : Byte} {k : Nat} (hx : x.toNat = k) (hb : LaidOut off' b fin parts)
    (hoff : off + 1 = off' := by rfl) : LaidOut off ([x] ++ b) fin (fieldIs off 1 k :: parts) :=
  LaidOut.cons ⟨rfl, fun _ h => (h 0 1 le_rfl).trans ((imageField_byte x []).trans hx)⟩ hb hoff

/-- The first of a few bytes stands in front of the others. -/
theorem LaidOut.byte_cons {x y : Byte} {ys : List Byte} {k : Nat} (hx : x.toNat = k)
    (hb : LaidOut off' ((y :: ys) ++ b) fin parts) (hoff : off + 1 = off' := by rfl) :
    LaidOut off ((x :: y :: ys) ++ b) fin (fieldIs off 1 k :: parts) :=
  LaidOut.byte hx hb hoff

/-- The same bytes may be read in two ways. -/
theorem LaidOut.cons_both (hp : Laid off n a p) (hq : Laid off n a q) (hb : LaidOut off' b fin parts)
    (hoff : off + n = off' := by rfl) : LaidOut off (a ++ b) fin (p :: q :: parts) := by
  obtain ⟨hfin, hparts⟩ := LaidOut.cons hq hb hoff
  exact ⟨hfin, fun m h => Shows.cons (hp.2 m h.left) (hparts m h)⟩

/-- What an image laid out from its start shows: its size and its parts. -/
theorem LaidOut.shows (h : LaidOut 0 a fin parts) : a.length = fin ∧ Shows a parts :=
  ⟨(Nat.zero_add _).symm.trans h.1, h.2 a (StandsAt.self a)⟩

theorem laid_field {x : Nat} (hsize : a.length = n) (h : imageField a 0 n = x) : Laid off n a (fieldIs off n x) :=
  ⟨hsize, fun m hm => (hm 0 n (by omega)).trans h⟩

end

end

section
variable {off : Nat}

/-! ### The parts of one number -/

/-- A number that fits is shown. -/
theorem laid_number {n x : Nat} (h : x < 256 ^ n) : Laid off n (leBytes n x) (fieldIs off n x) :=
  laid_field (leBytes_length n x) ((imageField_leBytes n x).trans (Nat.mod_eq_of_lt h))

/-- Of any number the part that fits is shown. -/
theorem laid_residue (n x : Nat) {k : Nat} (hk : 256 ^ n = k := by norm_num) :
    Laid off n (leBytes n x) (fieldIs off n (x % k)) :=
  laid_field (leBytes_length n x) (hk ▸ imageField_leBytes n x)

theorem laid_bits {w n : Nat} (x : BitVec w) (h : w ≤ 8 * n) :
    Laid off n (leBytes n x.toNat) (fieldIs off n x.toNat) := by
  refine laid_number (x.isLt.trans_le ?_)
  calc 2 ^ w ≤ 2 ^ (8 * n) := Nat.pow_le_pow_right (by decide) h
    _ = 256 ^ n := Nat.pow_mul 2 8 n

theorem laid_bits_eq {w n k : Nat} {x : BitVec w} (hx : x.toNat = k) (h : w ≤ 8 * n) :
    Laid off n (leBytes n x.toNat) (fieldIs off n k) :=
  hx ▸ laid_bits x h

theorem laid_index {b : Nat} (i : Fin b) (h : b ≤ 256) : Laid off 1 (leBytes 1 i.val) (fieldIs off 1 i.val) :=
  laid_number (i.isLt.trans_le h)

/-- An index that may be absent, shown as 0 then. -/
theorem laid_optionIndex {b : Nat} (i : Option (Fin b)) (h : b ≤ 256) :
    Laid off 1 (leBytes 1 ((i.map Fin.val).getD 0)) (fieldIs off 1 ((i.map Fin.val).getD 0)) := by
  cases i with
  | none => exact laid_number (Nat.pow_pos (by decide))
  | some i => exact laid_index i h

theorem toNat_flagByte (b : Bool) : (flagByte b).toNat = if b then 1 else 0 := by cases b <;> rfl

theorem laid_zeros (n : Nat) : Laid off n (List.replicate n 0) (fieldIs off n 0) :=
  laid_field List.length_replicate (imageField_replicate n 0 n)

theorem laid_signed (x : Int) : Laid off 4 (leBytes 4 (BitVec.ofInt 32 x).toNat) (signedIs off x) := by
  refine ⟨leBytes_length 4 _, fun m hm => ?_⟩
  have hfits : (BitVec.ofInt 32 x).toNat < 256 ^ 4 := BitVec.isLt _
  change (imageField m (off + 0) 4 : Int) = _
  rw [hm 0 4 (by rw [leBytes_length]), imageField_leBytes, Nat.mod_eq_of_lt hfits, BitVec.toNat_ofInt,
    Int.toNat_of_nonneg (Int.emod_nonneg _ (by decide))]
  rfl

/-! ### The parts of many numbers -/

/-- The field of a byte. -/
theorem imageField_one (a : List Byte) (j : Nat) : imageField a j 1 = (a.getD j 0).toNat := by
  rw [imageField_succ, imageField_zero]
  rfl

/-- The model writes the indices as numbers by a bind of the list; it is a map. -/
theorem bind_val_eq_map {b : Nat} (l : List (Fin b)) : (do let i ← l; pure i.val) = l.map Fin.val :=
  (List.map_eq_flatMap ..).symm

theorem laid_indices {b : Nat} (k : Nat) (l : List (Fin b)) (h : b ≤ 256) :
    Laid off k (((l.map fun i => BitVec.ofNat 8 i) ++ List.replicate k 0).take k) (indicesAre off k l) := by
  have hlength : (((l.map fun (i : Fin b) => BitVec.ofNat 8 i.val) ++ List.replicate k 0).take k).length = k := by simp
  rw [bind_val_eq_map, List.map_map]
  refine ⟨hlength, fun m hm j hj => ?_⟩
  rw [hm j 1 ((Nat.succ_le_of_lt hj).trans_eq hlength.symm), imageField_one, List.getD_eq_getElem?_getD,
    List.getElem?_take_of_lt hj]
  by_cases hin : j < l.length
  · have hfits : l[j].val < 256 := l[j].isLt.trans_le h
    rw [List.getElem?_append_left (by simpa using hin), List.getElem?_map, List.getElem?_eq_getElem hin]
    exact Nat.mod_eq_of_lt hfits
  · rw [List.getElem?_append_right (by simpa using hin), List.getElem?_eq_none (Nat.not_lt.mp hin),
      List.getElem?_replicate]
    split <;> rfl

/-- Equal parts one behind the other: the field of the k-th is that of its own bytes. -/
theorem imageField_flatMap {α : Type} {g : α → List Byte} {n : Nat} (hg : ∀ x, (g x).length = n) (l : List α)
    (k : Nat) (hk : k < l.length) : imageField (l.flatMap g) (n * k) n = imageField (g l[k]) 0 n := by
  induction l generalizing k with
  | nil => cases hk
  | cons x l ih =>
    rw [List.flatMap_cons]
    cases k with
    | zero => exact imageField_append_left (by rw [hg]; omega)
    | succ k =>
      rw [imageField_append_right (by rw [hg, Nat.mul_succ]; omega), hg, Nat.mul_succ, Nat.add_sub_cancel]
      exact ih k (Nat.lt_of_succ_lt_succ hk)

theorem flatMap_length {α : Type} {g : α → List Byte} {n : Nat} (hg : ∀ x, (g x).length = n) (l : List α) :
    (l.flatMap g).length = n * l.length := by
  rw [List.length_flatMap, List.map_congr_left fun x _ => hg x, List.map_const', List.sum_replicate, smul_eq_mul,
    Nat.mul_comm]

theorem laid_table {α : Type} {k n : Nat} (v : Vector α k) (g : α → Nat) (h : ∀ x, g x < 256 ^ n) :
    Laid off (n * k) (v.toList.flatMap fun x => leBytes n (g x)) (recordsAre off n fun i : Fin k => g v[i]) := by
  have hlength : (v.toList.flatMap fun x => leBytes n (g x)).length = n * k := by
    rw [flatMap_length (fun x => leBytes_length n (g x)), Vector.length_toList]
  refine ⟨hlength, fun m hm i => ?_⟩
  have hi : i.val < v.toList.length := by rw [Vector.length_toList]; exact i.isLt
  have hfits : n * i.val + n ≤ n * k := by rw [← Nat.mul_succ]; exact Nat.mul_le_mul_left n i.isLt
  rw [hm _ n (hlength ▸ hfits), imageField_flatMap (fun x => leBytes_length n (g x)) _ _ hi, imageField_leBytes,
    Nat.mod_eq_of_lt (h _)]
  rfl

/-- Bit k of the number whose bits are listed from the lowest on. -/
theorem testBit_foldr (l : List Bool) (k : Nat) :
    (l.foldr (fun (b : Bool) acc => acc * 2 + b.toNat) 0).testBit k = l.getD k false := by
  induction l generalizing k with
  | nil => exact Nat.zero_testBit k
  | cons b l ih =>
    rw [List.foldr_cons]
    generalize l.foldr (fun (b : Bool) acc => acc * 2 + b.toNat) 0 = acc at ih
    cases k with
    | zero => cases b <;> simp [Nat.testBit_zero]
    | succ k =>
      have hhalf : (acc * 2 + b.toNat) / 2 = acc := by cases b <;> simp; omega
      rw [Nat.testBit_succ, hhalf, ih]
      rfl

theorem foldr_bits_lt (l : List Bool) : l.foldr (fun (b : Bool) acc => acc * 2 + b.toNat) 0 < 2 ^ l.length := by
  induction l with
  | nil => exact Nat.one_pos
  | cons b l ih =>
    have hb := Bool.toNat_le b
    rw [List.foldr_cons, List.length_cons, Nat.pow_succ]
    omega

/-- A byte of at most 8 bits is read as it was written. -/
theorem imageField_bits {k : Nat} (v : Vector Bool k) (h : k ≤ 8) :
    imageField (leBytes 1 (v.toList.foldr (fun b acc => acc * 2 + b.toNat) 0)) 0 1 =
      v.toList.foldr (fun b acc => acc * 2 + b.toNat) 0 := by
  have hbelow := foldr_bits_lt v.toList
  rw [Vector.length_toList] at hbelow
  rw [imageField_leBytes]
  exact Nat.mod_eq_of_lt (hbelow.trans_le (Nat.pow_le_pow_right (by decide) h))

/-- A byte of bits holds no more than its bits. -/
theorem laid_bitsBelow {k : Nat} (v : Vector Bool k) (h : k ≤ 8) :
    Laid off 1 (leBytes 1 (v.toList.foldr (fun b acc => acc * 2 + b.toNat) 0)) (byteBelow off (2 ^ k)) := by
  refine ⟨leBytes_length 1 _, fun m hm => ?_⟩
  change imageField m (off + 0) 1 < 2 ^ k
  rw [hm 0 1 (leBytes_length 1 _).ge, imageField_bits v h]
  exact (foldr_bits_lt v.toList).trans_eq (congrArg (2 ^ ·) Vector.length_toList)

/-- A byte of bits holds each in its place. -/
theorem laid_bitTable {k : Nat} (v : Vector Bool k) (h : k ≤ 8) :
    Laid off 1 (leBytes 1 (v.toList.foldr (fun b acc => acc * 2 + b.toNat) 0)) (bitsAre off fun i : Fin k => v[i]) := by
  refine ⟨leBytes_length 1 _, fun m hm i => ?_⟩
  change (imageField m (off + 0) 1).testBit i.val = v[i]
  rw [hm 0 1 (leBytes_length 1 _).ge, imageField_bits v h, testBit_foldr, List.getD_eq_getElem?_getD,
    Vector.getElem?_toList, Vector.getElem?_eq_getElem i.isLt]
  rfl

theorem laid_numbers (l : List Nat) : Laid off (4 * l.length) (l.flatMap (leBytes 4)) (numbersAre off l) := by
  have hlength := flatMap_length (fun x => leBytes_length 4 x) l
  refine ⟨hlength, fun m hm => List.ext_getElem (by simp) fun j hj _ => ?_⟩
  have hin : j < l.length := by simpa using hj
  rw [List.getElem_map, List.getElem_map, List.getElem_range, hm _ 4 (by omega),
    imageField_flatMap (fun x => leBytes_length 4 x) l j hin, imageField_leBytes]
  rfl

end

end Sys2Proof.Machine
end

section
/-! PROOF of O29, the images. The layout of each read image as chapter 10 tables it (R193 to R196), and that the
image is laid out by it. -/

namespace Sys2Proof.Machine

open Sys2Proof

/-! ### Codes and figures as numbers (R193) -/

def HopState.number : HopState → Nat
  | .vacant => 0
  | .clear => 1
  | .fading => 2
  | .faded => 3
  | .down => 4

theorem HopState.toNat_code (x : HopState) : x.code.toNat = x.number := by cases x <;> rfl

def RouteState.number : RouteState → Nat
  | .vacant => 0
  | .normal => 1
  | .fallback => 2
  | .dark => 3

theorem RouteState.toNat_code (x : RouteState) : x.code.toNat = x.number := by cases x <;> rfl

def EstimateStatus.number : EstimateStatus → Nat
  | .none => 0
  | .settling => 1
  | .steady => 2

theorem EstimateStatus.toNat_code (x : EstimateStatus) : x.code.toNat = x.number := by cases x <;> rfl

def TimeState.number : TimeState → Nat
  | .unset => 0
  | .set => 1
  | .tracking => 2
  | .holdover => 3

theorem TimeState.toNat_code (x : TimeState) : x.code.toNat = x.number := by cases x <;> rfl

def LineState.number : LineState → Nat
  | .stopped => 0
  | .running => 1
  | .suspending => 2
  | .suspended => 3

theorem LineState.toNat_code (x : LineState) : x.code.toNat = x.number := by cases x <;> rfl

def PathBody.number : PathBody → Nat
  | .vacant => 0
  | .microwave _ => 1
  | .fibre _ _ => 2

theorem PathBody.toNat_code (x : PathBody) : x.code.toNat = x.number := by cases x <;> rfl

def PathBody.fibreRate : PathBody → Nat
  | .fibre _ rate => rate.toNat
  | _ => 0

theorem PathBody.toNat_fibreRate (x : PathBody) : x.fibreFigures.1.toNat = x.fibreRate := by cases x <;> rfl

def PathBody.fibreLatency : PathBody → Nat
  | .fibre latency _ => latency.toNat
  | _ => 0

theorem PathBody.toNat_fibreLatency (x : PathBody) : x.fibreFigures.2.toNat = x.fibreLatency := by cases x <;> rfl

/-! ### The derived figures of a path fit their fields (R60 to R62) -/

section
variable {s : State}

theorem rate_lt (profile : BitVec 3) : s.rate profile < 65536 := by
  unfold State.rate
  split
  · decide
  · exact max_lt (BitVec.isLt _) (by decide)

theorem minRate_lt (x : PathBody) : s.minRate x < 65536 := by
  cases x with
  | vacant => exact Nat.zero_lt_succ _
  | microwave hops =>
    change ((hops.map fun h => s.rate s.hops[h].profile).min?).getD 0 < _
    cases hmin : (hops.map fun h => s.rate s.hops[h].profile).min? with
    | none => exact Nat.zero_lt_succ _
    | some r =>
      obtain ⟨h, -, rfl⟩ := List.mem_map.mp (List.min?_mem hmin)
      exact rate_lt _
  | fibre latency rate => exact rate.isLt

theorem nominalLatency_le (x : PathBody) : s.nominalLatency x ≤ 16777215 := by
  cases x with
  | vacant => exact Nat.zero_le _
  | microwave hops => exact Nat.min_le_right _ _
  | fibre latency rate => exact Nat.le_of_lt_succ latency.isLt

theorem latencyUsed_le (x : Path) : s.latencyUsed x ≤ 16777215 := by
  unfold State.latencyUsed
  split
  · exact Nat.min_le_right _ _
  · exact nominalLatency_le _

end

theorem latency_fits {x : Nat} (h : x ≤ 16777215) : x < 256 ^ 4 := h.trans_lt (by norm_num)

/-! ### Hops (R191, R194, R196) -/

def Hop.parts (h : Hop) : List (List Byte → Prop) :=
  [fieldIs 0 1 h.state.number, fieldIs 1 1 h.profile.toNat, fieldIs 2 1 (if h.clearHold.isSome then 1 else 0),
    fieldIs 3 1 (if h.attention then 1 else 0), fieldIs 4 2 h.margin.toNat, fieldIs 6 1 h.errors.toNat,
    fieldIs 7 1 (h.bad % 256), fieldIs 8 2 (h.clearHold.getD 0 % 65536), fieldIs 10 2 (h.silence % 65536),
    fieldIs 12 2 h.generation.toNat, fieldIs 14 2 0, fieldIs 16 8 h.stamp.toNat,
    fieldIs 24 4 (h.outage % 4294967296), fieldIs 28 4 0, fieldIs 32 1 h.config.line.val,
    fieldIs 33 1 h.config.nominal.toNat, fieldIs 34 2 h.config.fade.toNat, fieldIs 36 2 h.config.clear.toNat,
    fieldIs 38 1 h.config.errorLimit.toNat, fieldIs 39 1 h.config.badLimit.toNat,
    fieldIs 40 2 h.config.restore.toNat, fieldIs 42 2 h.config.silence.toNat,
    fieldIs 44 4 h.config.propagation.toNat, fieldIs 48 2 h.config.regeneration.toNat, fieldIs 50 6 0]

theorem Hop.laid (h : Hop) : LaidOut 0 h.image 56 h.parts := by
  simp only [Hop.image, HopConfig.bytes, List.append_assoc]
  exact
    .byte h.state.toNat_code <|
    .cons (laid_bits h.profile (by decide)) <|
    .byte_cons (toNat_flagByte h.clearHold.isSome) <|
    .byte (toNat_flagByte h.attention) <|
    .cons (laid_bits h.margin (by decide)) <|
    .byte rfl <|
    .cons (laid_residue 1 h.bad) <|
    .cons (laid_residue 2 (h.clearHold.getD 0)) <|
    .cons (laid_residue 2 h.silence) <|
    .cons (laid_bits h.generation (by decide)) <|
    .cons (laid_zeros 2) <|
    .cons (laid_bits h.stamp (by decide)) <|
    .cons (laid_residue 4 h.outage) <|
    .cons (laid_zeros 4) <|
    .cons (laid_index h.config.line (by decide)) <|
    .cons (laid_bits h.config.nominal (by decide)) <|
    .cons (laid_bits h.config.fade (by decide)) <|
    .cons (laid_bits h.config.clear (by decide)) <|
    .byte rfl <|
    .cons (laid_bits h.config.badLimit (by decide)) <|
    .cons (laid_bits h.config.restore (by decide)) <|
    .cons (laid_bits h.config.silence (by decide)) <|
    .cons (laid_bits h.config.propagation (by decide)) <|
    .cons (laid_bits h.config.regeneration (by decide)) <|
    .last (laid_zeros 6)

def hopNoticeParts (i : HopIndex) (h : Hop) : List (List Byte → Prop) :=
  [fieldIs 0 1 1, fieldIs 1 1 i.val, fieldIs 2 1 h.state.number, fieldIs 3 1 1, fieldIs 4 1 h.profile.toNat,
    fieldIs 5 3 0]

theorem hopNotice_laid (i : HopIndex) (h : Hop) : LaidOut 0 (hopNotice i h) 8 (hopNoticeParts i h) := by
  simp only [hopNotice, List.append_assoc]
  exact
    .byte rfl <|
    .cons (laid_index i (by decide)) <|
    .byte_cons h.state.toNat_code <|
    .byte rfl <|
    .cons (laid_bits h.profile (by decide)) <|
    .last (laid_zeros 3)

/-! ### Paths (R191, R194) -/

def State.pathParts (s : State) (x : Path) : List (List Byte → Prop) :=
  [fieldIs 0 1 x.body.number, fieldIs 1 1 x.config.port.toNat, fieldIs 2 1 x.config.farId.toNat,
    fieldIs 3 1 (x.body.hops.length % 256), fieldIs 4 2 x.config.asymmetry.toNat,
    fieldIs 6 2 x.config.interval.toNat, fieldIs 8 1 x.config.echoTimeout.toNat,
    fieldIs 9 1 x.config.lossLimit.toNat, fieldIs 10 1 x.config.shift.toNat, fieldIs 11 1 0,
    fieldIs 12 2 x.config.rejectWindow.toNat, fieldIs 14 2 x.body.fibreRate, fieldIs 16 4 x.body.fibreLatency,
    indicesAre 20 12 x.body.hops, fieldIs 32 4 (x.estimate % 4294967296), fieldIs 36 1 x.status.number,
    fieldIs 37 1 (x.accepted % 256), fieldIs 38 1 (x.outlier % 256), fieldIs 39 1 (x.loss % 256),
    fieldIs 40 1 (if x.lost then 1 else 0), fieldIs 41 1 (if x.timer.isSome then 1 else 0),
    fieldIs 42 2 (x.timer.getD 0 % 65536), fieldIs 44 2 x.nextSeq.toNat, fieldIs 46 2 x.generation.toNat,
    fieldIs 48 2 (s.minRate x.body), fieldIs 50 2 0, fieldIs 52 4 (s.nominalLatency x.body),
    fieldIs 56 4 (s.latencyUsed x), fieldIs 60 4 0]

theorem State.path_laid (s : State) (i : PathIndex) : LaidOut 0 (s.pathImage i) 64 (s.pathParts s.paths[i]) := by
  simp only [State.pathImage, Path.configBytes, List.append_assoc]
  generalize s.paths[i] = x
  exact
    .byte x.body.toNat_code <|
    .cons (laid_bits x.config.port (by decide)) <|
    .byte rfl <|
    .cons (laid_residue 1 x.body.hops.length) <|
    .cons (laid_bits x.config.asymmetry (by decide)) <|
    .cons (laid_bits x.config.interval (by decide)) <|
    .byte rfl <|
    .cons (laid_bits x.config.lossLimit (by decide)) <|
    .cons (laid_bits x.config.shift (by decide)) <|
    .byte rfl <|
    .cons (laid_bits x.config.rejectWindow (by decide)) <|
    .cons (laid_bits_eq x.body.toNat_fibreRate (by decide)) <|
    .cons (laid_bits_eq x.body.toNat_fibreLatency (by decide)) <|
    .cons (laid_indices 12 x.body.hops (by decide)) <|
    .cons (laid_residue 4 x.estimate) <|
    .byte x.status.toNat_code <|
    .cons (laid_residue 1 x.accepted) <|
    .cons (laid_residue 1 x.outlier) <|
    .cons (laid_residue 1 x.loss) <|
    .byte_cons (toNat_flagByte x.lost) <|
    .byte (toNat_flagByte x.timer.isSome) <|
    .cons (laid_residue 2 (x.timer.getD 0)) <|
    .cons (laid_bits x.nextSeq (by decide)) <|
    .cons (laid_bits x.generation (by decide)) <|
    .cons (laid_number (minRate_lt x.body)) <|
    .cons (laid_zeros 2) <|
    .cons (laid_number (latency_fits (nominalLatency_le x.body))) <|
    .cons (laid_number (latency_fits (latencyUsed_le x))) <|
    .last (laid_zeros 4)

/-! ### Routes (R191, R195, R196) -/

theorem Route.valid_laid {off : Nat} (r : Route) :
    Laid off 1 (leBytes 1 ((r.contexts.toList.map Context.valid).foldr (fun b acc => acc * 2 + b.toNat) 0))
        (byteBelow off 16) ∧
      Laid off 1 (leBytes 1 ((r.contexts.toList.map Context.valid).foldr (fun b acc => acc * 2 + b.toNat) 0))
        (bitsAre off fun c : ClassIndex => r.contexts[c].valid) := by
  have hbits := laid_bitTable (off := off) (r.contexts.map Context.valid) (by decide)
  have hbelow := laid_bitsBelow (off := off) (r.contexts.map Context.valid) (by decide)
  rw [Vector.toList_map] at hbits hbelow
  simp only [table_map] at hbits
  exact ⟨hbelow, hbits⟩

def Route.parts (r : Route) : List (List Byte → Prop) :=
  [fieldIs 0 1 r.state.number, fieldIs 1 1 (if r.attention then 1 else 0), fieldIs 2 1 (if r.rerank then 1 else 0),
    fieldIs 3 1 (if r.choice.isSome then 1 else 0), fieldIs 4 1 ((r.choice.map Fin.val).getD 0), fieldIs 5 3 0,
    fieldIs 8 1 (r.candidates.length % 256), fieldIs 9 1 (if r.fallback.isSome then 1 else 0),
    fieldIs 10 2 r.refLength.toNat, fieldIs 12 1 ((r.fallback.map Fin.val).getD 0), fieldIs 13 3 0,
    indicesAre 16 8 r.candidates, fieldIs 24 4 (r.latency % 4294967296), fieldIs 28 2 r.generation.toNat,
    byteBelow 30 16, bitsAre 30 (fun c : ClassIndex => r.contexts[c].valid), fieldIs 31 1 0,
    recordsAre 32 8 (fun c : ClassIndex => r.contexts[c].last.toNat), fieldIs 64 4 (r.counters.ok % 4294967296),
    fieldIs 68 4 (r.counters.fallback % 4294967296), fieldIs 72 4 (r.counters.waived % 4294967296),
    fieldIs 76 4 (r.counters.noPath % 4294967296)]

theorem Route.laid (r : Route) : LaidOut 0 r.image 80 r.parts := by
  simp only [Route.image, Route.configBytes, List.append_assoc]
  exact
    .byte_cons r.state.toNat_code <|
    .byte_cons (toNat_flagByte r.attention) <|
    .byte_cons (toNat_flagByte r.rerank) <|
    .byte (toNat_flagByte r.choice.isSome) <|
    .cons (laid_optionIndex r.choice (by decide)) <|
    .cons (laid_zeros 3) <|
    .cons (laid_residue 1 r.candidates.length) <|
    .byte (toNat_flagByte r.fallback.isSome) <|
    .cons (laid_bits r.refLength (by decide)) <|
    .cons (laid_optionIndex r.fallback (by decide)) <|
    .cons (laid_zeros 3) <|
    .cons (laid_indices 8 r.candidates (by decide)) <|
    .cons (laid_residue 4 r.latency) <|
    .cons (laid_bits r.generation (by decide)) <|
    .cons_both r.valid_laid.1 r.valid_laid.2 <|
    .byte rfl <|
    .cons (laid_table r.contexts (fun c => c.last.toNat) fun c => c.last.isLt) <|
    .cons (laid_residue 4 r.counters.ok) <|
    .cons (laid_residue 4 r.counters.fallback) <|
    .cons (laid_residue 4 r.counters.waived) <|
    .last (laid_residue 4 r.counters.noPath)

def routeNoticeParts (i : RouteIndex) (r : Route) : List (List Byte → Prop) :=
  [fieldIs 0 1 2, fieldIs 1 1 i.val, fieldIs 2 1 r.state.number, fieldIs 3 1 (if r.choice.isSome then 1 else 0),
    fieldIs 4 1 ((r.choice.map Fin.val).getD 0), fieldIs 5 3 0]

theorem routeNotice_laid (i : RouteIndex) (r : Route) : LaidOut 0 (routeNotice i r) 8 (routeNoticeParts i r) := by
  simp only [routeNotice, List.append_assoc]
  exact
    .byte rfl <|
    .cons (laid_index i (by decide)) <|
    .byte_cons r.state.toNat_code <|
    .byte (toNat_flagByte r.choice.isSome) <|
    .cons (laid_optionIndex r.choice (by decide)) <|
    .last (laid_zeros 3)

/-! ### Class policies, profiles and holds (R192, R195) -/

def ClassPolicy.parts (x : ClassPolicy) : List (List Byte → Prop) :=
  [fieldIs 0 1 (if x.tolerateFading then 1 else 0), fieldIs 1 1 (if x.fibreCompetes then 1 else 0),
    fieldIs 2 1 (if x.ordering then 1 else 0), fieldIs 3 1 0, fieldIs 4 2 x.gap.toNat, fieldIs 6 2 0,
    fieldIs 8 4 x.maxHold.toNat, fieldIs 12 4 0]

theorem ClassPolicy.laid (x : ClassPolicy) : LaidOut 0 x.image 16 x.parts := by
  simp only [ClassPolicy.image, List.append_assoc]
  exact
    .byte_cons (toNat_flagByte x.tolerateFading) <|
    .byte_cons (toNat_flagByte x.fibreCompetes) <|
    .byte_cons (toNat_flagByte x.ordering) <|
    .byte rfl <|
    .cons (laid_bits x.gap (by decide)) <|
    .cons (laid_zeros 2) <|
    .cons (laid_bits x.maxHold (by decide)) <|
    .last (laid_zeros 4)

def profilesParts (v : Vector Half 7) : List (List Byte → Prop) :=
  [fieldIs 0 2 0, recordsAre 2 2 (fun j : Fin 7 => v[j].toNat)]

/-- Entry 0 is shown as 0 in front of the seven entries. -/
theorem profiles_laid (v : Vector Half 7) : LaidOut 0 (profilesImage v) 16 (profilesParts v) :=
  .cons (laid_zeros 2) <| .last (laid_table v BitVec.toNat BitVec.isLt)

def holdsParts (v : Vector (Option (BitVec 64)) 8) : List (List Byte → Prop) :=
  [bitsAre 0 (fun k : LevelIndex => v[k].isSome), fieldIs 1 7 0,
    recordsAre 8 8 (fun k : LevelIndex => (v[k].getD 0).toNat)]

theorem holds_laid (v : Vector (Option (BitVec 64)) 8) : LaidOut 0 (holdsImage v) 72 (holdsParts v) := by
  have hplaced := laid_bitTable (off := 0) (v.map Option.isSome) (by decide)
  rw [Vector.toList_map, List.foldr_map] at hplaced
  simp only [table_map] at hplaced
  simp only [holdsImage, List.append_assoc]
  exact
    .cons hplaced <|
    .cons (laid_zeros 7) <|
    .last (laid_table v (fun l => (l.getD 0).toNat) fun l => (l.getD 0).isLt)

/-! ### Time, lines and the device (R196) -/

def TimeBase.parts (t : TimeBase) : List (List Byte → Prop) :=
  [fieldIs 0 8 t.count.toNat, fieldIs 8 1 t.state.number, fieldIs 9 1 t.epoch.toNat,
    fieldIs 10 1 (if t.supervision.isSome then 1 else 0), fieldIs 11 1 t.integral.toNat,
    fieldIs 12 1 t.proportional.toNat, fieldIs 13 1 0, fieldIs 14 2 (t.supervision.getD 0 % 65536),
    signedIs 16 t.aInt, signedIs 20 t.aApp, fieldIs 24 4 t.stepLimit.toNat, signedIs 28 t.lastError]

theorem TimeBase.laid (t : TimeBase) : LaidOut 0 t.image 32 t.parts := by
  simp only [TimeBase.image, List.append_assoc]
  exact
    .cons (laid_bits t.count (by decide)) <|
    .byte t.state.toNat_code <|
    .cons (laid_bits t.epoch (by decide)) <|
    .byte (toNat_flagByte t.supervision.isSome) <|
    .cons (laid_bits t.integral (by decide)) <|
    .cons (laid_bits t.proportional (by decide)) <|
    .byte rfl <|
    .cons (laid_residue 2 (t.supervision.getD 0)) <|
    .cons (laid_signed t.aInt) <|
    .cons (laid_signed t.aApp) <|
    .cons (laid_bits t.stepLimit (by decide)) <|
    .last (laid_signed t.lastError)

def Line.parts (x : Line) : List (List Byte → Prop) :=
  [fieldIs 0 1 x.state.number, fieldIs 1 1 (if x.buffer.isSome then 1 else 0),
    fieldIs 2 2 (x.counters.absorbed % 65536), fieldIs 4 2 (x.counters.checkErrors % 65536),
    fieldIs 6 2 (x.counters.lengthErrors % 65536), fieldIs 8 2 (x.counters.unknownHop % 65536),
    fieldIs 10 2 (x.counters.misrouted % 65536), fieldIs 12 2 (x.counters.refused % 65536),
    fieldIs 14 2 (x.counters.overrun % 65536)]

theorem Line.laid (x : Line) : LaidOut 0 x.image 16 x.parts := by
  simp only [Line.image, List.append_assoc]
  exact
    .byte_cons x.state.toNat_code <|
    .byte (toNat_flagByte x.buffer.isSome) <|
    .cons (laid_residue 2 x.counters.absorbed) <|
    .cons (laid_residue 2 x.counters.checkErrors) <|
    .cons (laid_residue 2 x.counters.lengthErrors) <|
    .cons (laid_residue 2 x.counters.unknownHop) <|
    .cons (laid_residue 2 x.counters.misrouted) <|
    .cons (laid_residue 2 x.counters.refused) <|
    .last (laid_residue 2 x.counters.overrun)

/-- How many of the 32 slots are of a kind. -/
theorem laid_slotCount {off : Nat} (v : Vector Slot 32) (kind : Slot → Bool) :
    Laid off 1 (leBytes 1 (v.toList.countP kind)) (fieldIs off 1 (v.toList.filter kind).length) := by
  rw [← List.countP_eq_length_filter]
  refine laid_number (List.countP_le_length.trans_lt ?_)
  rw [Vector.length_toList]
  decide

def ProbeEngine.parts (g : ProbeEngine) : List (List Byte → Prop) :=
  [fieldIs 0 1 g.terminalId.toNat, fieldIs 1 1 g.taken.toNat, fieldIs 2 2 g.lead.toNat,
    fieldIs 4 1 (g.slots.toList.filter Slot.isQueued).length, fieldIs 5 1 (g.slots.toList.filter Slot.isSent).length,
    fieldIs 6 1 (g.backlog.length % 256), fieldIs 7 1 (if g.transmitter.isSome then 1 else 0),
    numbersAre 8 g.counters.toList, fieldIs 76 4 0]

theorem ProbeEngine.laid (g : ProbeEngine) : LaidOut 0 g.image 80 g.parts := by
  simp only [ProbeEngine.image, List.append_assoc]
  exact
    .byte rfl <|
    .cons (laid_bits g.taken (by decide)) <|
    .cons (laid_bits g.lead (by decide)) <|
    .cons (laid_slotCount g.slots Slot.isQueued) <|
    .cons (laid_slotCount g.slots Slot.isSent) <|
    .cons (laid_residue 1 g.backlog.length) <|
    .byte (toNat_flagByte g.transmitter.isSome) <|
    .cons (laid_numbers g.counters.toList) <|
    .last (laid_zeros 4)

/-- Settles O29: the four reads take their images, and each image shows the parts it is laid out by. -/
theorem readRequestsTakeImagesAsLaidOut : Obligations.ReadRequestsTakeImagesAsLaidOut := by
  intro s
  refine ⟨applies_of_settle_eq rfl rfl rfl, applies_of_settle_eq rfl rfl rfl,
    fun _ => applies_of_settle_eq rfl rfl rfl, fun _ => applies_of_settle_eq rfl rfl rfl,
    fun i => s.hops[i].laid.shows, fun p => (s.path_laid p).shows, fun i => s.routes[i].laid.shows,
    fun c => s.classes[c].laid.shows, ?profiles, ?holds, ?time, fun l => s.lines[l].laid.shows, ?device,
    fun i => (hopNotice_laid i s.hops[i]).shows, fun i => (routeNotice_laid i s.routes[i]).shows⟩
  case profiles =>
    rintro m rfl
    obtain ⟨hlength, hzero, hentries⟩ := (profiles_laid s.profiles).shows
    exact ⟨hlength, hzero, fun j => Nat.add_comm 2 _ ▸ hentries j⟩
  case holds =>
    rintro m rfl
    exact (holds_laid s.holds).shows
  case time =>
    rintro t m rfl rfl
    exact s.time.laid.shows
  case device =>
    rintro g c m rfl rfl rfl
    exact s.probe.laid.shows

end Sys2Proof.Machine
end
